-- ==== Sys2Proof/Word.lean ====
section
/-! DEFINITION. The units in which records cross the ports of the WZ6140 (spec/12_record_formats.md, chapter 12):
bytes, and the 32-bit words of the control port. -/
namespace Sys2Proof

/-- One byte of a record, of a payload or of a slot. -/
abbrev Byte := BitVec 8

/-- One 32-bit word: an argument or a result of the control port (12.3), or a 32-bit field of a record. -/
abbrev Word := BitVec 32

end Sys2Proof
end

