-- ==== Sys2Proof/Syntax.lean ====
section
/-! DEFINITION. The commands of the WZ6140: one constructor of `Instr` for each row of spec/opcode_table.json, and the
records that three of the ports take in. An arrival, a command record and a drain request come from outside and are
operands; the arrival or the control-port command that a row TAKES stands in the part's own queue (R28, R188), so those
rows carry no operand. -/
namespace Sys2Proof

/-- A slot handle: a slot number with the generation it had when the handle was issued (R58, R61). -/
structure Handle where
  slot : Nat
  gen : BitVec 8
deriving DecidableEq, Repr

/-- The fields of a SEGMENT arrival (R31). The payload length it carries is the length of `payload`. -/
structure SegmentArrival where
  link : Fin 4
  tag : Word
  offset : BitVec 48
  final : Bool
  payload : List Byte
deriving DecidableEq, Repr

/-- The fields of a CHECK arrival (R32). -/
structure CheckArrival where
  link : Fin 4
  tag : Word
  index : Word
  s : Word
  t : Word
deriving DecidableEq, Repr

/-- The fields of a TRAILER arrival (R33). The expected object S and T are present exactly when the presence field says
yes. -/
structure TrailerArrival where
  link : Fin 4
  tag : Word
  length : BitVec 48
  pcv : Option (Word × Word)
deriving DecidableEq, Repr

/-- What the part reads of an arrival of an unknown kind (R197): the kind byte, the link and the tag of its header. -/
structure UnknownArrival where
  kind : Byte
  link : Fin 4
  tag : Word
deriving DecidableEq, Repr

/-- One arrival record, as the protocol engine delivers it (section 2.2, section 12.1). -/
inductive Arrival where
  | segment (a : SegmentArrival)
  | check (a : CheckArrival)
  | trailer (a : TrailerArrival)
  | unknown (a : UnknownArrival)
deriving DecidableEq, Repr

/-- One command record (R187): the code, the host's tag and the argument words. The argument word count it carries is
the length of `args`. -/
structure CommandRecord where
  code : BitVec 16
  tag : BitVec 16
  args : List Word
deriving DecidableEq, Repr

/-- The outcome a RELEASE reports (R148). -/
inductive StoreOutcome where
  | stored
  | failedStore
deriving DecidableEq, Repr

/-- The commands: one constructor per row of spec/opcode_table.json, in the table's order. -/
inductive Instr where
  /-- POWER_ON (R62). -/
  | powerOn
  /-- ARRIVAL_DELIVERY (R29). -/
  | arrivalDelivery (a : Arrival)
  /-- SEGMENT (R45): the port takes the SEGMENT arrival at the head of its input queue. -/
  | segment
  /-- CHECK (R48): the port takes the CHECK arrival at the head of its input queue. -/
  | check
  /-- TRAILER (R50): the port takes the TRAILER arrival at the head of its input queue. -/
  | trailer
  /-- UNKNOWN_KIND (R197): the port takes an arrival of an unknown kind from the head of its input queue. -/
  | unknownKind
  /-- DISPOSITION_ACCEPT (R30). -/
  | dispositionAccept
  /-- COMMAND_WRITE (R187). -/
  | commandWrite (c : CommandRecord)
  /-- RESPONSE_READ (R189). -/
  | responseRead
  /-- PORT_STATUS_READ (R190). -/
  | portStatusRead
  /-- OPEN_STREAM (R6), taken from the head of the command queue, as every row down to UNKNOWN_COMMAND (R188). -/
  | openStream
  /-- CLOSE_STREAM (R17). -/
  | closeStream
  /-- ABORT_STREAM (R13). -/
  | abortStream
  /-- ABORT_GROUP (R16). -/
  | abortGroup
  /-- QUERY_STREAM (R19). -/
  | queryStream
  /-- CONFIGURE_POOL (R55). -/
  | configurePool
  /-- SUPPLY_CHECK (R99). -/
  | supplyCheck
  /-- SUPPLY_OBJECT_CHECK (R102). -/
  | supplyObjectCheck
  /-- SET_STREAM_TIMERS (R130). -/
  | setStreamTimers
  /-- SET_GROUP_TIMERS (R131). -/
  | setGroupTimers
  /-- SET_TIMER_DEFAULTS (R132). -/
  | setTimerDefaults
  /-- SET_QUEUE (R136). -/
  | setQueue
  /-- RELEASE_HOLD (R155). -/
  | releaseHold
  /-- DRAIN_STATUS (R156), the control-port command. -/
  | drainStatus
  /-- SET_STORE_LIMIT (R193). -/
  | setStoreLimit
  /-- ACK_ATTENTION (R172). -/
  | ackAttention
  /-- END_ATTENTION (R173). -/
  | endAttention
  /-- SET_CLASS (R174). -/
  | setClass
  /-- SET_THRESHOLD (R175). -/
  | setThreshold
  /-- FETCH_NOTICES (R178). -/
  | fetchNotices
  /-- READ_STREAM_COUNTERS (R183). -/
  | readStreamCounters
  /-- SNAPSHOT (R184). -/
  | snapshot
  /-- READ_SNAPSHOT (R185). -/
  | readSnapshot
  /-- QUERY_ENGINE (R192). -/
  | queryEngine
  /-- RESET_ENGINE (R194). -/
  | resetEngine
  /-- UNKNOWN_COMMAND (R198). -/
  | unknownCommand
  /-- READ_READY (R143): queue number and count as carried. -/
  | readReady (q : Fin 4) (count : BitVec 8)
  /-- CHAIN_READ (R162): count as carried. -/
  | chainRead (count : BitVec 8)
  /-- READ_DATA (R147): handle, offset and length as carried. -/
  | readData (h : Handle) (offset : Word) (length : BitVec 17)
  /-- RELEASE (R148). -/
  | release (h : Handle) (outcome : StoreOutcome)
  /-- DRAIN_STATUS_REQUEST (R156), the drain request. -/
  | drainStatusRequest
  /-- UNKNOWN_REQUEST (R133): a request whose kind byte is none of the five. -/
  | unknownRequest (kind : Byte)
  /-- DRAIN_ANSWER_ACCEPT (R133). -/
  | drainAnswerAccept
  /-- TIMER_ADVANCE (R121): the advance of the timer of one context at a tick. -/
  | timerAdvance (ctx : Fin 1024)
  /-- GAP_EXPIRY (R125): the advance that brings the count of a context to A in phase GAP. -/
  | gapExpiry (ctx : Fin 1024)
  /-- ABANDON_EXPIRY (R126): the advance that brings the count of a context to B in phase ABANDON. -/
  | abandonExpiry (ctx : Fin 1024)
  /-- SNAPSHOT_COMPLETION (R185). -/
  | snapshotCompletion
deriving DecidableEq, Repr

end Sys2Proof
end

