-- ==== Sys2Proof/WellFormed.lean ====
section
/-! DEFINITION. Which terms of `Instr` stand for a record that can cross a port (section 12): the operands whose Lean
type is wider than the record's field are bounded here. -/
namespace Sys2Proof

/-- The kind bytes of the three arrival kinds (section 12.1). -/
def knownArrivalKind (k : Byte) : Bool := k == 0x01 || k == 0x02 || k == 0x03

/-- The kind bytes of the five drain requests (section 12.2). -/
def knownRequestKind (k : Byte) : Bool :=
  k == 0x01 || k == 0x02 || k == 0x03 || k == 0x04 || k == 0x05

/-- A payload has at most the 65535 bytes its length field can carry (R31); an arrival of an unknown kind carries a kind
byte that is none of the three known ones (R197). -/
def Arrival.wellFormed : Arrival → Bool
  | .segment a => a.payload.length ≤ 65535
  | .check _ => true
  | .trailer _ => true
  | .unknown a => !knownArrivalKind a.kind

/-- The argument word count is one byte of the command header (section 12.3). -/
def CommandRecord.wellFormed (c : CommandRecord) : Bool := c.args.length ≤ 255

/-- A handle's slot number is carried in 12 bits (section 12.2). -/
def Handle.wellFormed (h : Handle) : Bool := h.slot < 4096

/-- Whether a command stands for a record or an event that the ports can carry. -/
def Instr.wellFormed : Instr → Bool
  | .arrivalDelivery a => a.wellFormed
  | .commandWrite c => c.wellFormed
  | .readData h _ _ => h.wellFormed
  | .release h _ => h.wellFormed
  | .unknownRequest k => !knownRequestKind k
  | .powerOn | .segment | .check | .trailer | .unknownKind | .dispositionAccept | .responseRead | .portStatusRead
  | .openStream | .closeStream | .abortStream | .abortGroup | .queryStream | .configurePool | .supplyCheck
  | .supplyObjectCheck | .setStreamTimers | .setGroupTimers | .setTimerDefaults | .setQueue | .releaseHold | .drainStatus
  | .setStoreLimit | .ackAttention | .endAttention | .setClass | .setThreshold | .fetchNotices | .readStreamCounters
  | .snapshot | .readSnapshot | .queryEngine | .resetEngine | .unknownCommand | .readReady _ _ | .chainRead _
  | .drainStatusRequest | .drainAnswerAccept | .timerAdvance _ | .gapExpiry _ | .abandonExpiry _
  | .snapshotCompletion => true

end Sys2Proof
end

