-- ==== Sys2Proof/Decode.lean ====
section
/-! DEFINITION. The records the part takes in (chapter 12), read into commands, and the same commands written as records.
A record's bytes are read as one number with byte 0 in its lowest eight bits, which is the little-endian order of section 5
of 00_scope.md. Reserved fields are ignored when a record is read (R196) and written as 0.
spec/opcode_table.json gives no row any bits, so no word of the table spells a command. -/
namespace Sys2Proof

/-- The command that a word spells by the table's bits: the table gives none of its rows any, so no word spells one. -/
def decodeTableWord (_nbits _w : Nat) : Option Instr := none

/-- The field of `n` bytes at byte offset `off` of a record. -/
def recordField {w : Nat} (r : BitVec w) (off n : Nat) : BitVec (8 * n) := r.extractLsb' (8 * off) (8 * n)

/-- A number of 0 to 3 from its two bits. -/
def bitsFin4 (b : BitVec 2) : Fin 4 := ⟨b.toNat, b.isLt⟩

/-- The two bits of a number of 0 to 3. -/
def fin4Bits (q : Fin 4) : BitVec 2 := BitVec.ofNat 2 q.val

/-! ## Arrivals (section 12.1) -/

/-- The link of an arrival header, bits 0 and 1 of byte 1. -/
def headerLink (h : BitVec 256) : Fin 4 := bitsFin4 (h.extractLsb' 8 2)

/-- The arrival of a 32-byte header and the bytes that follow it. A SEGMENT is followed by as many payload bytes as its
payload length field gives; the other kinds, and a header of an unknown kind (R197), are the header alone. Other bytes are
no arrival record. -/
def decodeArrival (h : BitVec 256) (payload : List Byte) : Option Arrival :=
  if recordField h 0 1 = 0x01 then
    if payload.length = (recordField h 2 2).toNat then
      some (.segment
        { link := headerLink h
          tag := recordField h 4 4
          offset := recordField h 8 6
          final := h.getLsbD 10
          payload := payload })
    else none
  else if !payload.isEmpty then none
  else if recordField h 0 1 = 0x02 then
    some (.check
      { link := headerLink h, tag := recordField h 4 4, index := recordField h 8 4, s := recordField h 16 4,
        t := recordField h 20 4 })
  else if recordField h 0 1 = 0x03 then
    some (.trailer
      { link := headerLink h
        tag := recordField h 4 4
        length := recordField h 8 6
        pcv := if h.getLsbD 10 then some (recordField h 16 4, recordField h 20 4) else none })
  else some (.unknown { kind := recordField h 0 1, link := headerLink h, tag := recordField h 4 4 })

/-- The first eight bytes of an arrival header: kind, link with bit 2 of byte 1, payload length, stream tag. -/
def headerBits (kind : Byte) (link : Fin 4) (flag : Bool) (len : BitVec 16) (tag : Word) : BitVec 64 :=
  (tag ++ (len ++ ((0 : BitVec 5) ++ (BitVec.ofBool flag ++ (fin4Bits link ++ kind : BitVec 10) : BitVec 11) :
    BitVec 16) : BitVec 32) : BitVec 64)

/-- The 32-byte header of an arrival and the bytes that follow it (section 12.1). -/
def encodeArrival : Arrival → BitVec 256 × List Byte
  | .segment a =>
    (((0 : BitVec 144) ++ (a.offset ++ headerBits 0x01 a.link a.final (BitVec.ofNat 16 a.payload.length) a.tag :
        BitVec 112) : BitVec 256),
      a.payload)
  | .check a =>
    (((0 : BitVec 64) ++ (a.t ++ (a.s ++ ((0 : BitVec 32) ++ (a.index ++ headerBits 0x02 a.link false 0 a.tag :
        BitVec 96) : BitVec 128) : BitVec 160) : BitVec 192) : BitVec 256),
      [])
  | .trailer a =>
    (((0 : BitVec 64) ++ ((a.pcv.getD (0, 0)).2 ++ ((a.pcv.getD (0, 0)).1 ++ ((0 : BitVec 16) ++
        (a.length ++ headerBits 0x03 a.link a.pcv.isSome 0 a.tag : BitVec 112) : BitVec 128) : BitVec 160) :
        BitVec 192) : BitVec 256),
      [])
  | .unknown a => (((0 : BitVec 192) ++ headerBits a.kind a.link false 0 a.tag : BitVec 256), [])

/-- The delivery of an arrival record: ARRIVAL_DELIVERY with the arrival the bytes carry. -/
def decodeDelivery (h : BitVec 256) (payload : List Byte) : Option Instr :=
  (decodeArrival h payload).map .arrivalDelivery

/-! ## Command records (section 12.3) -/

/-- The command record of an 8-byte header and its argument words, as many as the argument word count gives. -/
def decodeCommand (h : BitVec 64) (args : List Word) : Option CommandRecord :=
  if args.length = (recordField h 2 1).toNat then
    some { code := recordField h 0 2, tag := recordField h 4 2, args := args }
  else none

/-- The 8-byte header of a command record and its argument words. -/
def encodeCommand (c : CommandRecord) : BitVec 64 × List Word :=
  (((0 : BitVec 16) ++ (c.tag ++ ((0 : BitVec 8) ++ (BitVec.ofNat 8 c.args.length ++ c.code : BitVec 24) :
      BitVec 32) : BitVec 48) : BitVec 64),
    c.args)

/-- The write of a command record: COMMAND_WRITE with the record the words carry. -/
def decodeWrite (h : BitVec 64) (args : List Word) : Option Instr := (decodeCommand h args).map .commandWrite

/-! ## Drain requests (section 12.2) -/

/-- The handle of a drain request: the slot number in bits 0 to 11 of bytes 4 and 5, the generation in byte 6. -/
def requestHandle (r : BitVec 128) : Handle := { slot := (r.extractLsb' 32 12).toNat, gen := recordField r 6 1 }

/-- The outcome of a RELEASE: bit 0 of byte 1. -/
def outcomeOf (b : Bool) : StoreOutcome := if b then .failedStore else .stored

/-- The request that a 16-byte record carries; a kind byte that is none of the five gives UNKNOWN_REQUEST (R133). -/
def decodeRequest (r : BitVec 128) : Instr :=
  if recordField r 0 1 = 0x01 then .readReady (bitsFin4 (r.extractLsb' 8 2)) (recordField r 2 1)
  else if recordField r 0 1 = 0x02 then .chainRead (recordField r 2 1)
  else if recordField r 0 1 = 0x03 then .readData (requestHandle r) (recordField r 8 4) (r.extractLsb' 96 17)
  else if recordField r 0 1 = 0x04 then .release (requestHandle r) (outcomeOf (r.getLsbD 8))
  else if recordField r 0 1 = 0x05 then .drainStatusRequest
  else .unknownRequest (recordField r 0 1)

/-- Bit 0 of byte 1 of a RELEASE. -/
def outcomeBit : StoreOutcome → Bool
  | .stored => false
  | .failedStore => true

/-- The first eight bytes of a drain request: kind, byte 1, count and handle. -/
def requestBits (kind byte1 count : Byte) (h : Handle) : BitVec 64 :=
  ((0 : BitVec 8) ++ (h.gen ++ ((0 : BitVec 4) ++ (BitVec.ofNat 12 h.slot ++ ((0 : BitVec 8) ++ (count ++
    (byte1 ++ kind : BitVec 16) : BitVec 24) : BitVec 32) : BitVec 44) : BitVec 48) : BitVec 56) : BitVec 64)

/-- The handle of a request that carries none: reserved bytes of zero. -/
def noHandle : Handle := { slot := 0, gen := 0 }

/-- The 16 bytes of a drain request (section 12.2); `none` for a command that is no drain request. -/
def encodeRequest : Instr → Option (BitVec 128)
  | .readReady q count =>
    some ((0 : BitVec 64) ++ requestBits 0x01 ((0 : BitVec 6) ++ fin4Bits q : BitVec 8) count noHandle)
  | .chainRead count => some ((0 : BitVec 64) ++ requestBits 0x02 0 count noHandle)
  | .readData h offset length =>
    some (((0 : BitVec 15) ++ (length ++ (offset ++ requestBits 0x03 0 0 h : BitVec 96) : BitVec 113) : BitVec 128))
  | .release h outcome =>
    some ((0 : BitVec 64) ++ requestBits 0x04 ((0 : BitVec 7) ++ BitVec.ofBool (outcomeBit outcome) : BitVec 8) 0 h)
  | .drainStatusRequest => some ((0 : BitVec 64) ++ requestBits 0x05 0 0 noHandle)
  | .unknownRequest kind => some ((0 : BitVec 64) ++ requestBits kind 0 0 noHandle)
  | .powerOn | .arrivalDelivery _ | .segment | .check | .trailer | .unknownKind | .dispositionAccept | .commandWrite _
  | .responseRead | .portStatusRead | .openStream | .closeStream | .abortStream | .abortGroup | .queryStream
  | .configurePool | .supplyCheck | .supplyObjectCheck | .setStreamTimers | .setGroupTimers | .setTimerDefaults
  | .setQueue | .releaseHold | .drainStatus | .setStoreLimit | .ackAttention | .endAttention | .setClass | .setThreshold
  | .fetchNotices | .readStreamCounters | .snapshot | .readSnapshot | .queryEngine | .resetEngine | .unknownCommand
  | .drainAnswerAccept | .timerAdvance _ | .gapExpiry _ | .abandonExpiry _ | .snapshotCompletion => none

end Sys2Proof
end

