-- ==== Sys2Proof/Config.lean ====
section
/-! DEFINITION. The constants of the WZ6140 that no command changes. The spec states a number for each of them, so none
of them is a free value. -/
namespace Sys2Proof.Config

/-- M, the PCV modulus, 2^31 − 1 (00_scope.md, section 4; 04, opening). -/
def modulus : Nat := 2147483647

/-- The largest object length, 2^44 bytes (R1, R31, R33). -/
def maxObject : Nat := 2 ^ 44

/-- The largest payload of a valid segment (R39). -/
def maxPayload : Nat := 16384

/-- The number of stream contexts (R1). -/
def contextCount : Nat := 1024

/-- The positions of an extent window (R20). -/
def windowSize : Nat := 64

/-- The most fill ranges an extent record keeps (R74). -/
def maxRanges : Nat := 8

/-- The entries of the segment port's input queue (R28). -/
def inputCapacity : Nat := 32

/-- The entries of the command queue (R187). -/
def commandCapacity : Nat := 16

/-- The entries of the response queue (R188). -/
def responseCapacity : Nat := 16

/-- The entries of the claim table (R138). -/
def claimCapacity : Nat := 64

/-- The entries of the extent table, the largest slot count (R52). -/
def tableEntries : Nat := 4096

/-- The bytes of buffer memory, 2 GiB (R51). -/
def bufferBytes : Nat := 2147483648

/-- The maximum of a 48-bit counter (R180, R181). -/
def max48 : Nat := 2 ^ 48 - 1

/-- The maximum of a 32-bit counter (R180, R181). -/
def max32 : Nat := 2 ^ 32 - 1

/-- The maximum of a 16-bit counter (R180). -/
def max16 : Nat := 2 ^ 16 - 1

/-- The family code of the identity word (R192). -/
def familyCode : Nat := 0x5A46

/-- The revision of the identity word (R192). -/
def revision : Nat := 1

end Sys2Proof.Config
end

