-- ==== Sys2Proof/Machine/Table.lean ====
section
/-! DEFINITION. Sparse tables: lists of (number, entry) pairs in ONE canonical form, numbers strictly rising. The stream
table (R1), the extent table (R52), the generations (R61) and the bytes of buffer memory (R51) are held in this form, so
that equal tables are equal lists. -/
namespace Sys2Proof.Machine

/-- A table of entries by number. A number that is not listed has no entry. -/
abbrev Table (α : Type) := List (Nat × α)

/-- The entry of number `k`. -/
def tabGet {α : Type} : Table α → Nat → Option α
  | [], _ => none
  | (j, v) :: t, k => if k = j then some v else tabGet t k

/-- The table with entry `v` at number `k`. -/
def tabSet {α : Type} : Table α → Nat → α → Table α
  | [], k, v => [(k, v)]
  | (j, w) :: t, k, v =>
    if k < j then (k, v) :: (j, w) :: t
    else if k = j then (k, v) :: t
    else (j, w) :: tabSet t k v

/-- The table without an entry at number `k`. -/
def tabErase {α : Type} : Table α → Nat → Table α
  | [], _ => []
  | (j, w) :: t, k => if k = j then tabErase t k else (j, w) :: tabErase t k

/-- The canonical form: every number is above `lo` (when given) and the numbers rise strictly. -/
def tabRising {α : Type} : Option Nat → Table α → Bool
  | _, [] => true
  | lo, (j, _) :: t => (match lo with | none => true | some l => decide (l < j)) && tabRising (some j) t

/-- The canonical form of a table. -/
def tabWf {α : Type} (t : Table α) : Bool := tabRising none t

/-- The lowest number from `i` on, among `n` numbers, that has no entry. -/
def tabLowestFree {α : Type} (t : Table α) : Nat → Nat → Option Nat
  | 0, _ => none
  | n + 1, i => if (tabGet t i).isNone then some i else tabLowestFree t n (i + 1)

end Sys2Proof.Machine
end

