-- ==== Sys2Proof/Machine/State.lean ====
section
/-! DEFINITION. The state of the WZ6140 as plain data, and the state right after power-on. Each field names the rule of
spec/ that gives it; INVENTORY.md lists them with their reset values. -/
namespace Sys2Proof.Machine

/-- A positional check value: the pair (S, T) (R84). -/
structure Pcv where
  s : Nat
  t : Nat
deriving DecidableEq, Repr

/-- The states of a stream context that is not FREE (R1, section 1.2). FREE is the absence of the context (DEDUCED,
log 7). -/
inductive StreamState where
  | opened
  | ending
  | done
  | failed
  | withdrawing
deriving DecidableEq, Repr

/-- The failure causes (R1). -/
inductive Cause where
  | extentCheck
  | objectCheck
  | stall
  | store
  | aborted
deriving DecidableEq, Repr

/-- The stall timer phases (R120). -/
inductive Phase where
  | off
  | gap
  | abandon
deriving DecidableEq, Repr

/-- The values of a window position (R20). -/
inductive WinPos where
  | absent
  | live
  | sealed
deriving DecidableEq, Repr

/-- The disposition codes (section 2.3.1). -/
inductive DispCode where
  | accepted
  | partialNew
  | duplicate
  | late
  | unknownStream
  | streamFailed
  | misaligned
  | badLength
  | outOfWindow
  | beyondEnd
  | lengthConflict
  | checkConflict
  | badCheckValue
  | noSlot
  | rangeLimit
  | unknownKind
deriving DecidableEq, Repr

/-- The first hole of a stream: an object offset, or unknown (R18). -/
inductive FirstHole where
  | offset (x : Nat)
  | unknown
deriving DecidableEq, Repr

/-- A saturating counter with its saturated flag (R182). -/
structure Counter where
  value : Nat
  saturated : Bool
deriving DecidableEq, Repr

/-- The counter at zero with its flag clear. -/
def Counter.zero : Counter := { value := 0, saturated := false }

/-- The five counters of a stream (R180). -/
structure StreamCounters where
  accepted : Counter
  duplicate : Counter
  refused : Counter
  retries : Counter
  storeFailures : Counter
deriving DecidableEq, Repr

/-- All five stream counters at zero (R7, R183). -/
def StreamCounters.zero : StreamCounters :=
  { accepted := .zero, duplicate := .zero, refused := .zero, retries := .zero, storeFailures := .zero }

/-- The five counters of a link (R181). -/
structure LinkCounters where
  arrivals : Counter
  accepted : Counter
  duplicate : Counter
  refused : Counter
  unknownStream : Counter
deriving DecidableEq, Repr

/-- All five link counters at zero (R181). -/
def LinkCounters.zero : LinkCounters :=
  { arrivals := .zero, accepted := .zero, duplicate := .zero, refused := .zero, unknownStream := .zero }

/-- The five notice flags of a stream with their details (R176). A clear flag is `none`; its detail carries no meaning
(R177). -/
structure Notices where
  failed : Option Cause
  retry : Option Nat
  stall : Option FirstHole
  protocol : Option DispCode
  done : Option Nat
deriving DecidableEq, Repr

/-- Every notice flag clear (R7). -/
def Notices.clear : Notices := { failed := none, retry := none, stall := none, protocol := none, done := none }

/-- A stream context that is not FREE (R1). -/
structure Context where
  tag : Word
  state : StreamState
  cause : Option Cause
  group : Nat
  queue : Fin 4
  extentCheck : Bool
  objectCheck : Bool
  length : Option Nat
  expected : Option Pcv
  acc : Pcv
  edge : Nat
  window : Vector WinPos 64
  held : Nat
  retryLimit : Nat
  compareA : Nat
  compareB : Nat
  count : Nat
  phase : Phase
  notices : Notices
  lastRefusal : Option DispCode
  counters : StreamCounters
deriving DecidableEq, Repr

/-- The states of an extent record (section 3.4). -/
inductive ExtentState where
  | filling
  | awaitCheck
  | ready
  | claimed
deriving DecidableEq, Repr

/-- An extent record (R64). Its slot is the number of its entry and its generation is that slot's (DEDUCED, log 8). -/
structure Extent where
  stream : Nat
  index : Nat
  state : ExtentState
  ranges : List (Nat × Nat)
  acc : Pcv
  expected : Option Pcv
  retries : Nat
  storeAttempts : Nat
  checked : Bool
deriving DecidableEq, Repr

/-- The extent sizes (00 section 3.1, R54). -/
inductive ExtentSize where
  | k64
  | k128
  | k256
  | k512
  | m1
  | m2
  | m4
deriving DecidableEq, Repr

/-- How READ_READY completes a short answer (R144). -/
inductive ReadMode where
  | terminated
  | padded
deriving DecidableEq, Repr

/-- The parameters of a ready queue but its hold (R136). -/
structure QueueParams where
  weight : Nat
  member : Bool
  watermark : Nat
  mode : ReadMode
deriving DecidableEq, Repr

/-- The chain cursor (R158). -/
structure Cursor where
  round : Fin 4
  queue : Fin 4
deriving DecidableEq, Repr

/-- The statuses of a response (R191). -/
inductive Status where
  | ok
  | busy
  | unknownStream
  | tagInUse
  | tableFull
  | badState
  | notInService
  | checkConflict
  | noSlot
  | late
  | noneEligible
  | badArgument
  | unknownCommand
deriving DecidableEq, Repr

/-- A response record (R189). -/
structure Response where
  tag : BitVec 16
  status : Status
  results : List Word
deriving DecidableEq, Repr

/-- A disposition record (R34). `hole` is `none` when the first hole is absent. -/
structure Disposition where
  code : DispCode
  tag : Word
  newBytes : Nat
  hole : Option FirstHole
deriving DecidableEq, Repr

/-- The descriptor of an extent (R140) with its flags (R141); the FILLER flag is never set in it. -/
structure Descriptor where
  handle : Handle
  queue : Nat
  tag : Word
  index : Nat
  offset : Nat
  length : Nat
  pcv : Pcv
  last : Bool
  unchecked : Bool
  retried : Bool
  requeued : Bool
  streamFailed : Bool
deriving DecidableEq, Repr

/-- A record of a readout's answer: a descriptor, a filler or an END record (R140, R142). -/
inductive ReadRecord where
  | extent (d : Descriptor)
  | filler
  | endRecord
deriving DecidableEq, Repr

/-- The statuses of the drain port other than DATA (section 12.2). -/
inductive DrainStatus where
  | released
  | releasedFailed
  | requeued
  | withdrawn
  | staleHandle
  | notClaimed
  | badOffset
  | unknownRequest
deriving DecidableEq, Repr

/-- The summary of DRAIN_STATUS (R156). -/
structure DrainSummary where
  ready : List Nat
  hold : List Bool
  freeClaims : Nat
deriving DecidableEq, Repr

/-- An answer of the drain port (R133). -/
inductive DrainAnswer where
  | records (l : List ReadRecord)
  | data (bytes : List Byte)
  | status (st : DrainStatus)
  | summary (d : DrainSummary)
deriving DecidableEq, Repr

/-- The values a snapshot captures (R184). -/
structure SnapshotValues where
  links : Vector LinkCounters 4
  freeSlots : Nat
  ready : List Nat
  claims : Nat
  free : Nat
  opened : Nat
  ending : Nat
  done : Nat
  failed : Nat
  withdrawing : Nat
deriving DecidableEq, Repr

/-- The reasons the machine stops. The manual gives the part none. -/
inductive Fault where
  /-- Raised by SEGMENT when a slot it would write lies outside the pool, and so possibly at or above the 2 GiB of buffer
  memory (R51). No reachable state asks for one, since every slot of a record or of the free-slot list is below the slot
  count (R52, R57). Safe: the machine stops where the spec describes no access (DESIGN CHOICE, log 14). -/
  | outsideBuffer
deriving DecidableEq, Repr

/-- The reasons a command has no meaning in the model. -/
inductive Refusal where
  /-- Raised by an arm of `exec` for a command that has no meaning yet. Safe: nothing is claimed about it. -/
  | notModelled (mnemonic : String)
deriving DecidableEq, Repr

/-- The state of the WZ6140. -/
structure State where
  /-- The stream contexts that are not FREE, by context index (R1). -/
  contexts : Table Context
  /-- E (R54). -/
  extentSize : ExtentSize
  /-- The low mark (R54). -/
  lowMark : Nat
  /-- The free-slot list, head first (R57). -/
  freeSlots : List Nat
  /-- The generations that are not 0, by slot number (R61). -/
  gens : Table (BitVec 8)
  /-- The bound entries of the extent table, by slot number (R52). -/
  extents : Table Extent
  /-- The bytes of buffer memory that are not 0, by address (R51). -/
  mem : List Host.Cell
  /-- The input queue, head first (R28). -/
  inputQueue : List Arrival
  /-- The formed disposition that waits to be accepted (R30). -/
  disposition : Option Disposition
  /-- The command queue, head first (R187). -/
  commands : List CommandRecord
  /-- The overrun flag (R187). -/
  overrun : Bool
  /-- The response queue, head first (R188). -/
  responses : List Response
  /-- The four ready queues, head first (R134). -/
  ready : Vector (List Handle) 4
  /-- The holds of the queues (R154). -/
  hold : Vector Bool 4
  /-- The other parameters of the queues (R136). -/
  params : Vector QueueParams 4
  /-- The claim table (R138), in hand-out order (DESIGN CHOICE, log 16). -/
  claims : List Handle
  /-- The store limit (R152). -/
  storeLimit : Nat
  /-- The chain cursor (R158). -/
  cursor : Cursor
  /-- The drain answer that waits to be accepted (R133). -/
  drainAnswer : Option DrainAnswer
  /-- The default gap compare (R132). -/
  defaultA : Nat
  /-- The default abandon compare (R132). -/
  defaultB : Nat
  /-- The priorities of the attention classes (R170). -/
  priority : Vector Nat 8
  /-- The masks of the attention classes (R170). -/
  masked : Vector Bool 8
  /-- The in-service flags of the attention classes (R170). -/
  inService : Vector Bool 8
  /-- The threshold (R170). -/
  threshold : Nat
  /-- The link counters (R181). -/
  links : Vector LinkCounters 4
  /-- The copy state: `none` is IDLE, `some v` is COPYING with the captured values (R184). -/
  copy : Option SnapshotValues
  /-- The snapshot area (R184). -/
  area : SnapshotValues
  /-- The unread indication (R184). -/
  unread : Bool
  /-- The model's own: the disposition record last accepted (DESIGN CHOICE, log 9). -/
  segmentOut : List Byte
  /-- The model's own: the words the host's last read at the control port returned (DESIGN CHOICE, log 9). -/
  controlOut : List Word
  /-- The model's own: the drain answer last accepted (DESIGN CHOICE, log 9). -/
  drainOut : List Byte
  /-- The commands that wait to be run, first in, first out (DESIGN CHOICE, log 1). -/
  pending : List Instr
deriving DecidableEq, Repr

/-- The values of the snapshot area at power-on: all zeros (R184). -/
def SnapshotValues.zero : SnapshotValues :=
  { links := Vector.replicate 4 .zero, freeSlots := 0, ready := [0, 0, 0, 0], claims := 0,
    free := 0, opened := 0, ending := 0, done := 0, failed := 0, withdrawing := 0 }

/-- The parameters of a queue at power-on (R136, R157). -/
def QueueParams.powerOn : QueueParams := { weight := 4, member := true, watermark := 256, mode := .terminated }

/-- The machine right after power-on (R3, R28, R30, R56, R62, R132, R133, R152, R157, R158, R170, R181, R184, R187,
R189). -/
def State.reset : State :=
  { contexts := []
    extentSize := .m1
    lowMark := 64
    freeSlots := List.range 2048
    gens := []
    extents := []
    mem := []
    inputQueue := []
    disposition := none
    commands := []
    overrun := false
    responses := []
    ready := Vector.replicate 4 []
    hold := Vector.replicate 4 false
    params := Vector.replicate 4 .powerOn
    claims := []
    storeLimit := 3
    cursor := { round := 0, queue := 0 }
    drainAnswer := none
    defaultA := 2000
    defaultB := 30000
    priority := #v[0, 1, 2, 3, 4, 5, 6, 7]
    masked := Vector.replicate 8 true
    inService := Vector.replicate 8 false
    threshold := 7
    links := Vector.replicate 4 .zero
    copy := none
    area := .zero
    unread := false
    segmentOut := []
    controlOut := []
    drainOut := []
    pending := [] }

end Sys2Proof.Machine
end

