-- ==== Sys2Proof/Machine/Geometry.lean ====
section
/-! DEFINITION. The sizes that follow from E and L: slot count, extent number and extent length (00 section 3.1, R54,
R68). -/
namespace Sys2Proof.Machine

/-- The bytes of an extent size (R54). -/
def extentBytes : ExtentSize → Nat
  | .k64 => 65536
  | .k128 => 131072
  | .k256 => 262144
  | .k512 => 524288
  | .m1 => 1048576
  | .m2 => 2097152
  | .m4 => 4194304

/-- The slot count of an extent size (R54, step 2). -/
def slotCount : ExtentSize → Nat
  | .k64 => 4096
  | .k128 => 4096
  | .k256 => 4096
  | .k512 => 4096
  | .m1 => 2048
  | .m2 => 1024
  | .m4 => 512

/-- The extent size set by an extent size argument (R54, step 1): below 65536 it is 64 KiB; otherwise the largest power
of two not above the argument, at most 4 MiB. -/
def extentSizeOfArg (arg : Nat) : ExtentSize :=
  if arg < 131072 then .k64
  else if arg < 262144 then .k128
  else if arg < 524288 then .k256
  else if arg < 1048576 then .k512
  else if arg < 2097152 then .m1
  else if arg < 4194304 then .m2
  else .m4

/-- N = ceil(L / E) (R8, R26). -/
def extentCount (e l : Nat) : Nat := (l + (e - 1)) / e

/-- One more than the largest valid extent index, 2^44 / E (R55). -/
def indexLimit (e : Nat) : Nat := Config.maxObject / e

/-- The length of extent `k` of a stream with object length `l` (R68). -/
def extentLength (e : Nat) (l : Option Nat) (k : Nat) : Nat :=
  match l with
  | none => e
  | some len => if k + 1 = extentCount e len then len - k * e else e

end Sys2Proof.Machine
end

