-- ==== Sys2Proof/Machine/Flags.lean ====
section
/-! DEFINITION. The flags the spec computes: saturation of counters (R182), the port levels (R29, R171) and the pending
and eligible conditions of the attention classes (R169, R171). -/
namespace Sys2Proof.Machine

/-- An increase of a counter by `n` towards its maximum (R182). An increase of 0 changes nothing (R180). -/
def Counter.add (max : Nat) (c : Counter) (n : Nat) : Counter :=
  if n = 0 then c
  else if c.value + n < max then { c with value := c.value + n }
  else { value := max, saturated := true }

/-- The stop is asserted while the input queue holds 32 arrivals (R29). -/
def stopAsserted (s : State) : Bool := s.inputQueue.length ≥ Config.inputCapacity

/-- The free-slot count (R63). -/
def freeCount (s : State) : Nat := s.freeSlots.length

/-- The ready count of a queue (R135). -/
def readyCount (s : State) (q : Fin 4) : Nat := s.ready[q].length

/-- The number of free claims (R138). -/
def freeClaims (s : State) : Nat := Config.claimCapacity - s.claims.length

/-- The detail of a notice as a port carries it (section 12.3). -/
inductive NoticeDetail where
  | value (n : Nat)
  | unknown
deriving DecidableEq, Repr

/-- The codes of the failure causes; 0 is absent (section 12.3). -/
def causeCode : Option Cause → Nat
  | none => 0
  | some .extentCheck => 1
  | some .objectCheck => 2
  | some .stall => 3
  | some .store => 4
  | some .aborted => 5

/-- The codes of the dispositions (section 12.1). -/
def dispCode : DispCode → Nat
  | .accepted => 0x00
  | .partialNew => 0x01
  | .duplicate => 0x02
  | .late => 0x03
  | .unknownStream => 0x10
  | .streamFailed => 0x11
  | .misaligned => 0x12
  | .badLength => 0x13
  | .outOfWindow => 0x14
  | .beyondEnd => 0x15
  | .lengthConflict => 0x16
  | .checkConflict => 0x17
  | .badCheckValue => 0x18
  | .noSlot => 0x19
  | .rangeLimit => 0x1A
  | .unknownKind => 0x1B

/-- A first hole as a notice detail. -/
def holeDetail : FirstHole → NoticeDetail
  | .offset x => .value x
  | .unknown => .unknown

/-- The detail of the notice flag of an attention class, `none` when the flag is clear or the class has no flag (R176,
R178). -/
def noticeOf (n : Notices) (cls : Nat) : Option NoticeDetail :=
  match cls with
  | 0 => n.failed.map (fun c => .value (causeCode (some c)))
  | 1 => n.retry.map .value
  | 2 => n.stall.map holeDetail
  | 5 => n.protocol.map (fun d => .value (dispCode d))
  | 7 => n.done.map .value
  | _ => none

/-- The notices with the flag of one class cleared (R178). -/
def clearNotice (n : Notices) (cls : Nat) : Notices :=
  match cls with
  | 0 => { n with failed := none }
  | 1 => { n with retry := none }
  | 2 => { n with stall := none }
  | 5 => { n with protocol := none }
  | 7 => { n with done := none }
  | _ => n

/-- Whether any stream has the notice flag of a class set (R169). -/
def anyNotice (s : State) (cls : Nat) : Bool :=
  s.contexts.any (fun e => (noticeOf e.2.notices cls).isSome)

/-- Whether the ready count of a queue is at or above its watermark (R135). -/
def atWatermark (s : State) (q : Fin 4) : Bool := decide (s.params[q].watermark ≤ readyCount s q)

/-- Whether an attention class is pending (R169). -/
def classPending (s : State) (cls : Fin 8) : Bool :=
  match cls.val with
  | 3 => atWatermark s 0 || atWatermark s 1 || atWatermark s 2 || atWatermark s 3
  | 4 => decide (freeCount s ≤ s.lowMark)
  | 6 => s.unread
  | c => anyNotice s c

/-- The eight attention classes in ascending number. -/
def attentionClasses : List (Fin 8) := [0, 1, 2, 3, 4, 5, 6, 7]

/-- Whether an attention class is eligible (R171). -/
def classEligible (s : State) (cls : Fin 8) : Bool :=
  classPending s cls && !s.masked[cls] && decide (s.priority[cls] ≤ s.threshold)
    && attentionClasses.all (fun d => !s.inService[d] || decide (s.priority[cls] < s.priority[d]))

/-- The level of the attention line: high while at least one class is eligible (R171). -/
def attentionLine (s : State) : Bool := attentionClasses.any (classEligible s)

/-- The class ACK_ATTENTION takes from a list of eligible classes in ascending number: the lowest priority number, and
among equals the lowest class number (R172). -/
def mostUrgent (priority : Vector Nat 8) : List (Fin 8) → Option (Fin 8)
  | [] => none
  | c :: cs =>
    match mostUrgent priority cs with
    | none => some c
    | some d => if priority[c] ≤ priority[d] then some c else some d

end Sys2Proof.Machine
end

