-- ==== Sys2Proof/Machine/Pcv.lean ====
section
/-! DEFINITION. Positional check values (chapter 4): the words of a byte string, its PCV, the accumulation of a sub-piece
and the fold of an extent into its object. -/
namespace Sys2Proof.Machine

/-- A word from its four bytes, least significant first (R82). -/
def wordOf (b0 b1 b2 b3 : Byte) : Nat :=
  b0.toNat + 256 * b1.toNat + 65536 * b2.toNat + 16777216 * b3.toNat

/-- The words of a byte string; a byte position beyond its end is taken as 0 (R82). -/
def wordsOf : List Byte → List Nat
  | [] => []
  | [b0] => [wordOf b0 0 0 0]
  | [b0, b1] => [wordOf b0 b1 0 0]
  | [b0, b1, b2] => [wordOf b0 b1 b2 0]
  | b0 :: b1 :: b2 :: b3 :: bs => wordOf b0 b1 b2 b3 :: wordsOf bs

/-- The reduced word r (R83). -/
def reduceWord (w : Nat) : Nat := w % Config.modulus

/-- The plain sum of the reduced words (R84). -/
def plainSum : List Nat → Nat
  | [] => 0
  | w :: ws => reduceWord w + plainSum ws

/-- The sum of the reduced words weighted `j + 1`, `j + 2`, … (R84). -/
def weightedSum : Nat → List Nat → Nat
  | _, [] => 0
  | j, w :: ws => (j + 1) * reduceWord w + weightedSum (j + 1) ws

/-- The PCV of a byte string (R84). -/
def pcvOf (bytes : List Byte) : Pcv :=
  { s := plainSum (wordsOf bytes) % Config.modulus
    t := weightedSum 0 (wordsOf bytes) % Config.modulus }

/-- The accumulation of a sub-piece that starts at word offset `j0` of its extent (R87). -/
def accumulate (acc : Pcv) (j0 : Nat) (bytes : List Byte) : Pcv :=
  { s := (acc.s + (pcvOf bytes).s) % Config.modulus
    t := (acc.t + (pcvOf bytes).t + j0 * (pcvOf bytes).s) % Config.modulus }

/-- The reduced object word offset o of extent `k` (R92). -/
def wordOffset (e k : Nat) : Nat :=
  let h := k * e / 4 / 2 ^ 31
  let g := k * e / 4 % 2 ^ 31
  if h + g < Config.modulus then h + g else h + g - Config.modulus

/-- The fold of a sealed extent `k` with PCV `p` into the object accumulators (R91). -/
def foldPcv (acc : Pcv) (e k : Nat) (p : Pcv) : Pcv :=
  { s := (acc.s + p.s) % Config.modulus
    t := (acc.t + p.t + wordOffset e k * p.s) % Config.modulus }

/-- Whether a component carried by a record is a valid component of a PCV, below M (R95). -/
def pcvValid (s t : Word) : Bool := s.toNat < Config.modulus && t.toNat < Config.modulus

/-- The PCV of two carried components. -/
def pcvOfWords (s t : Word) : Pcv := { s := s.toNat, t := t.toNat }

end Sys2Proof.Machine
end

