-- ==== Sys2Proof/Machine/Ranges.lean ====
section
/-! DEFINITION. Fill ranges (section 3.5): half-open ranges in ascending order, pairwise disjoint and non-adjacent. -/
namespace Sys2Proof.Machine

/-- The sub-pieces of the piece [a, b): its maximal runs of positions that no range covers, ascending (R75). -/
def trimPiece : List (Nat × Nat) → Nat → Nat → List (Nat × Nat)
  | [], a, b => if a < b then [(a, b)] else []
  | (s, e) :: rs, a, b => (if a < min s b then [(a, min s b)] else []) ++ trimPiece rs (max a e) b

/-- The maximal runs of the union of the ranges with [a, b); runs that touch are one run (R77). -/
def insertRange : List (Nat × Nat) → Nat → Nat → List (Nat × Nat)
  | [], a, b => [(a, b)]
  | (s, e) :: rs, a, b =>
    if e < a then (s, e) :: insertRange rs a b
    else if b < s then (a, b) :: (s, e) :: rs
    else insertRange rs (min s a) (max e b)

/-- t of R76: how many ranges overlap the piece [a, b) or touch it. -/
def touchCount (rs : List (Nat × Nat)) (a b : Nat) : Nat :=
  (rs.filter (fun r => decide (r.1 ≤ b ∧ a ≤ r.2))).length

/-- The range count after the piece [a, b) is inserted, c − t + 1 (R76). -/
def countAfter (rs : List (Nat × Nat)) (a b : Nat) : Nat := rs.length - touchCount rs a b + 1

/-- The lowest position at or above `pos` that the ascending ranges do not cover. -/
def firstGap : List (Nat × Nat) → Nat → Nat
  | [], pos => pos
  | (s, e) :: rs, pos => if s ≤ pos then firstGap rs (max pos e) else pos

/-- The number of bytes in a list of runs. -/
def runBytes (runs : List (Nat × Nat)) : Nat := (runs.map (fun r => r.2 - r.1)).sum

/-- Whether position `x` lies inside a range of the list. -/
def covers (rs : List (Nat × Nat)) (x : Nat) : Bool := rs.any (fun r => decide (r.1 ≤ x ∧ x < r.2))

/-- R74: every range begins at or above `lo`, is not empty, and ends below the start of the next. -/
def rangesFrom : Nat → List (Nat × Nat) → Bool
  | _, [] => true
  | lo, (s, e) :: rs => decide (lo ≤ s ∧ s < e) && rangesFrom (e + 1) rs

end Sys2Proof.Machine
end

