-- ==== Sys2Proof/Machine/Ops.lean ====
section
/-! DEFINITION. The shared operations over State: buffer memory, contexts, extent records, allocation and freeing,
automatic failure handling, the DONE evaluation, the seal, the compare and the extent reset, the learning of L, the first
hole, and withdrawal. Every command's meaning is built from these. -/
namespace Sys2Proof.Machine

/-! ## Buffer memory (R51) -/

/-- The byte at a buffer address. An unlisted address reads 0 (DESIGN CHOICE, log 6). -/
def readByte (m : List Host.Cell) (a : Nat) : Byte := (tabGet m a).getD 0

/-- The cells of a run of bytes from address `a` up; a byte 0 is not listed. -/
def cellsOf : Nat → List Byte → List Host.Cell
  | _, [] => []
  | a, b :: bs => if b = 0 then cellsOf (a + 1) bs else (a, b) :: cellsOf (a + 1) bs

/-- Memory with a run of bytes written from address `a` up, in canonical form: the cells below the run, the run's own, and
those above it. -/
def writeBytes (m : List Host.Cell) (a : Nat) (bs : List Byte) : List Host.Cell :=
  m.filter (fun c => decide (c.1 < a)) ++ cellsOf a bs ++ m.filter (fun c => decide (a + bs.length ≤ c.1))

/-- The `n` bytes from address `a` up. -/
def readBytes (m : List Host.Cell) : Nat → Nat → List Byte
  | _, 0 => []
  | a, n + 1 => readByte m a :: readBytes m (a + 1) n

/-- Memory's canonical form: addresses strictly rising, below 2 GiB, and no byte 0 listed. -/
def memWf (m : List Host.Cell) : Bool :=
  tabWf m && m.all (fun c => c.2 != 0 && decide (c.1 < Config.bufferBytes))

/-! ## Contexts and the tag map -/

/-- The context of an index, `none` when it is FREE (R1). -/
def ctxOf (s : State) (i : Nat) : Option Context := tabGet s.contexts i

/-- The state with context `i` set to `c`. -/
def setCtx (s : State) (i : Nat) (c : Context) : State := { s with contexts := tabSet s.contexts i c }

/-- The state with context `i` changed by `f`; a FREE context stays FREE. -/
def modCtx (s : State) (i : Nat) (f : Context → Context) : State :=
  match ctxOf s i with
  | none => s
  | some c => setCtx s i (f c)

/-- The tag map (R2): the index and the context of the stream with a tag, `none` when the tag is not mapped. -/
def lookupTag (s : State) (tag : Word) : Option (Nat × Context) :=
  (s.contexts.find? (fun e => e.2.tag == tag)).bind (fun e => (ctxOf s e.1).map (fun c => (e.1, c)))

/-- The position in the window map of extent `k`, ABSENT outside the window (R20). -/
def winGet (c : Context) (k : Nat) : WinPos :=
  if h : c.edge ≤ k ∧ k - c.edge < 64 then c.window[k - c.edge]'h.2 else .absent

/-- The window map with the position of extent `k` set; an index outside the window has no position (R21). -/
def winSet (c : Context) (k : Nat) (v : WinPos) : Vector WinPos 64 :=
  if h : c.edge ≤ k ∧ k - c.edge < 64 then c.window.set (k - c.edge) v h.2 else c.window

/-- How many leading positions of a window map are SEALED. -/
def sealedRun : List WinPos → Nat
  | .sealed :: w => sealedRun w + 1
  | _ => 0

/-- A window map shifted down by `n` positions; the positions that enter at the top are ABSENT (R22). -/
def shiftWindow (w : Vector WinPos 64) (n : Nat) : Vector WinPos 64 :=
  ⟨⟨((w.toList.drop n) ++ List.replicate n WinPos.absent).take 64⟩, by simp; omega⟩

/-- The advance of the retired edge past the SEALED positions from position 0 on (R22). -/
def advanceEdge (c : Context) : Context :=
  { c with
    edge := c.edge + sealedRun c.window.toList
    window := shiftWindow c.window (sealedRun c.window.toList) }

/-! ## Stall timer (R122, R124) -/

/-- The starting phase of a timer (R122). -/
def startPhase (a b : Nat) : Phase :=
  if 0 < a then .gap else if 0 < b then .abandon else .off

/-- Whether a stream's state is OPEN or ENDING. -/
def StreamState.running : StreamState → Bool
  | .opened => true
  | .ending => true
  | .done => false
  | .failed => false
  | .withdrawing => false

/-- A context with its timer at the start of its first interval (R122). -/
def startTimer (c : Context) : Context := { c with count := 0, phase := startPhase c.compareA c.compareB }

/-- A restart cause at stream `i`: it acts on a stream in OPEN or ENDING and on no other (R124). -/
def restartTimer (s : State) (i : Nat) : State :=
  modCtx s i (fun c => if c.state.running then startTimer c else c)

/-! ## Extent records, handles and generations -/

/-- The generation of a slot number (R61). -/
def genOf (s : State) (slot : Nat) : BitVec 8 := (tabGet s.gens slot).getD 0

/-- The generations with that of `slot` one higher, modulo 256 (R60, step 4), in canonical form. -/
def bumpGen (s : State) (slot : Nat) : Table (BitVec 8) :=
  if genOf s slot + 1 = 0 then tabErase s.gens slot else tabSet s.gens slot (genOf s slot + 1)

/-- The current handle of a slot (R58). -/
def handleOf (s : State) (slot : Nat) : Handle := { slot := slot, gen := genOf s slot }

/-- The state with the entry of `slot` bound to record `r`. -/
def setExtent (s : State) (slot : Nat) (r : Extent) : State := { s with extents := tabSet s.extents slot r }

/-- The records of stream `i` with their slots, in ascending slot number. -/
def recordsOf (s : State) (i : Nat) : List (Nat × Extent) := s.extents.filter (fun e => e.2.stream == i)

/-- Whether a record has not sealed: FILLING or AWAIT_CHECK. -/
def ExtentState.unsealed : ExtentState → Bool
  | .filling => true
  | .awaitCheck => true
  | .ready => false
  | .claimed => false

/-- The slots of the records of stream `i` whose state satisfies `p`, ascending. -/
def slotsOf (s : State) (i : Nat) (p : ExtentState → Bool) : List Nat :=
  ((recordsOf s i).filter (fun e => p e.2.state)).map (·.1)

/-- The slot of the unsealed record of stream `i` for extent `k`. -/
def findUnsealed (s : State) (i k : Nat) : Option Nat :=
  (s.extents.find? (fun e => e.2.stream == i && e.2.index == k && e.2.state.unsealed)).map (·.1)

/-- The record bound to the unsealed extent `k` of stream `i`, with its slot. -/
def unsealedRecord (s : State) (i k : Nat) : Option (Nat × Extent) :=
  (findUnsealed s i k).bind (fun slot => (tabGet s.extents slot).map (fun r => (slot, r)))

/-- The initial values of a record (R64, R66, R67). -/
def newExtent (i k : Nat) (expected : Option Pcv) : Extent :=
  { stream := i, index := k, state := .filling, ranges := [], acc := { s := 0, t := 0 }, expected := expected,
    retries := 0, storeAttempts := 0, checked := false }

/-- Allocation (R58): the slot at the head of the free-slot list leaves it and is bound to a new record for extent `k` of
stream `i`; the window position becomes LIVE and the held count rises by one (R66, R67). The requests count their records
against the list before they create one, so the list is not empty here. -/
def createExtent (s : State) (i k : Nat) (expected : Option Pcv) : State :=
  match s.freeSlots with
  | [] => s
  | slot :: rest =>
    modCtx (setExtent { s with freeSlots := rest } slot (newExtent i k expected)) i
      (fun c => { c with window := winSet c k .live, held := c.held + 1 })

/-- Steps 1 and 2 of the freeing step (R60): a READY record leaves its ready queue, a CLAIMED one the claim table, and the
window position of an unsealed one returns to ABSENT. -/
def unlinkExtent (s : State) (slot : Nat) (r : Extent) : State :=
  match r.state with
  | .filling => modCtx s r.stream (fun c => { c with window := winSet c r.index .absent })
  | .awaitCheck => modCtx s r.stream (fun c => { c with window := winSet c r.index .absent })
  | .ready =>
    match ctxOf s r.stream with
    | none => s
    | some c => { s with ready := s.ready.set c.queue (s.ready[c.queue].filter (fun h => h != handleOf s slot)) }
  | .claimed => { s with claims := s.claims.filter (fun h => h != handleOf s slot) }

/-- The freeing step (R60), applied to the record bound to `slot`. -/
def freeExtent (s : State) (slot : Nat) : State :=
  match tabGet s.extents slot with
  | none => s
  | some r =>
    let u := modCtx (unlinkExtent s slot r) r.stream (fun c => { c with held := c.held - 1 })
    { u with
      gens := bumpGen u slot
      freeSlots := u.freeSlots ++ [slot]
      extents := tabErase u.extents slot }

/-- The freeing step applied to several records in the order given (R60: ascending slot number). -/
def freeExtents (s : State) (slots : List Nat) : State := slots.foldl freeExtent s

/-! ## Automatic failure handling and completion -/

/-- Step 4 of R11: the hold of a queue is set if a READY record of stream `i` remains. -/
def holdIfReady (s : State) (i : Nat) (q : Fin 4) : State :=
  if (slotsOf s i (· == .ready)).isEmpty then s else { s with hold := s.hold.set q true }

/-- Automatic failure handling (R11). A stream already in FAILED or WITHDRAWING is left as it is (R12). -/
def failStream (s : State) (i : Nat) (cause : Cause) : State :=
  match ctxOf s i with
  | none => s
  | some c =>
    if c.state = .failed ∨ c.state = .withdrawing then s
    else
      let s1 := setCtx s i { c with state := .failed, cause := some cause }
      let s2 := freeExtents s1 (slotsOf s1 i ExtentState.unsealed)
      let s3 := holdIfReady s2 i c.queue
      modCtx s3 i (fun d => { d with phase := .off, notices := { d.notices with failed := some cause } })

/-- Entry into DONE (R10): the phase becomes OFF and the DONE notice is set with N as its detail. -/
def enterDone (s : State) (i n : Nat) : State :=
  modCtx s i (fun c => { c with state := .done, phase := .off, notices := { c.notices with done := some n } })

/-- The DONE evaluation (R9) of stream `i`, with the object compare (R94, R113) it may make. -/
def evalDone (s : State) (i : Nat) : State :=
  match ctxOf s i with
  | none => s
  | some c =>
    match c.state, c.length with
    | .ending, some l =>
      let n := extentCount (extentBytes s.extentSize) l
      if c.edge < n then s
      else
        match c.expected with
        | some v => if c.acc = v then enterDone s i n else failStream s i .objectCheck
        | none => if c.objectCheck then s else enterDone s i n
    | _, _ => s

/-! ## Seal, compare, reset and routing (chapter 5) -/

/-- The seal of the extent bound to `slot` (R106), checked or unchecked (R107): READY and `checked`; the handle at the tail
of the ready queue of the stream; the position SEALED and the edge advanced (R22); the fold (R91); the timer restart; the
DONE evaluation. -/
def sealExtent (s : State) (slot : Nat) (checked : Bool) : State :=
  match tabGet s.extents slot with
  | none => s
  | some r =>
    match ctxOf s r.stream with
    | none => s
    | some c =>
      let s1 := setExtent s slot { r with state := .ready, checked := checked }
      let s2 := { s1 with ready := s1.ready.set c.queue (s1.ready[c.queue] ++ [handleOf s slot]) }
      let c1 := advanceEdge { c with window := winSet c r.index .sealed }
      let s3 := setCtx s2 r.stream { c1 with acc := foldPcv c.acc (extentBytes s.extentSize) r.index r.acc }
      evalDone (restartTimer s3 r.stream) r.stream

/-- The extent reset (R110): the ranges and accumulators are emptied, the retry count rises by one, the RETRY notice is
set with the extent index and the stream's retries counter rises by one (R118). -/
def extentReset (s : State) (slot : Nat) : State :=
  match tabGet s.extents slot with
  | none => s
  | some r =>
    modCtx
      (setExtent s slot
        { r with state := .filling, ranges := [], acc := { s := 0, t := 0 }, retries := r.retries + 1 })
      r.stream
      (fun c =>
        { c with
          notices := { c.notices with retry := some r.index }
          counters := { c.counters with retries := c.counters.retries.add Config.max16 1 } })

/-- What a compare or the storing of an expected value made of an extent (R99). -/
inductive ExtentOutcome where
  | stored
  | sealed
  | retry
  | freed
deriving DecidableEq, Repr

/-- The extent compare (R94) of the complete extent bound to `slot`, and its outcome by R105: a seal, the extent reset, or
the stream's failure with cause EXTENT_CHECK. -/
def compareExtent (s : State) (slot : Nat) : State × ExtentOutcome :=
  match tabGet s.extents slot with
  | none => (s, .stored)
  | some r =>
    if r.expected = some r.acc then (sealExtent s slot true, .sealed)
    else
      match ctxOf s r.stream with
      | none => (s, .stored)
      | some c =>
        if r.retries < c.retryLimit then (extentReset s slot, .retry)
        else (failStream s r.stream .extentCheck, .freed)

/-- Whether a record's fill ranges are exactly [0, length) (R79). -/
def complete (s : State) (c : Context) (r : Extent) : Bool :=
  r.ranges == [(0, extentLength (extentBytes s.extentSize) c.length r.index)]

/-- The examination for completeness of the record bound to `slot` (R79), and the routing of one found complete in FILLING
(R70): the compare when an expected value is held; otherwise AWAIT_CHECK when the stream requires extent checks, and an
unchecked seal when it does not. -/
def routeComplete (s : State) (slot : Nat) : State :=
  match tabGet s.extents slot with
  | none => s
  | some r =>
    match ctxOf s r.stream with
    | none => s
    | some c =>
      if r.state = .filling ∧ complete s c r = true then
        match r.expected with
        | some _ => (compareExtent s slot).1
        | none =>
          if c.extentCheck then setExtent s slot { r with state := .awaitCheck }
          else sealExtent s slot false
      else s

/-! ## Learning L (R24, R26) -/

/-- The conflict tests of R24 for a proposed length `l` of stream `i`. -/
def lengthConflict (s : State) (i : Nat) (c : Context) (l : Nat) : Bool :=
  let e := extentBytes s.extentSize
  (recordsOf s i).any (fun x => x.2.ranges.any (fun r => decide (l < x.2.index * e + r.2)))
    || decide (l < c.edge * e)
    || (recordsOf s i).any (fun x => decide (extentCount e l ≤ x.2.index))
    || (List.range 64).any (fun p => winGet c (c.edge + p) == .sealed && decide (l < (c.edge + p + 1) * e))

/-- Step 2 of R26: the unsealed record of the last extent is examined when its length becomes shorter than E. -/
def routeLast (s : State) (i l : Nat) : State :=
  let e := extentBytes s.extentSize
  let n := extentCount e l
  if 0 < n ∧ l - (n - 1) * e < e then
    match findUnsealed s i (n - 1) with
    | none => s
    | some slot => routeComplete s slot
  else s

/-- The learning of L by a stream in OPEN (R26). A stream in another state does not learn L again. -/
def learnLength (s : State) (i l : Nat) : State :=
  match ctxOf s i with
  | none => s
  | some c =>
    if c.state = .opened then
      evalDone (routeLast (setCtx s i { c with length := some l, state := .ending }) i l) i
    else s

/-! ## The first hole (R18) -/

/-- The lowest offset, from the start of extent `k` on, that the stream does not cover, given the window positions from
that of `k` on: a SEALED extent is covered whole, a LIVE one where its fill ranges are, and nothing above the window. -/
def holeFrom (s : State) (i e : Nat) : List WinPos → Nat → Nat
  | [], k => k * e
  | .sealed :: w, k => holeFrom s i e w (k + 1)
  | .absent :: _, k => k * e
  | .live :: w, k =>
    match unsealedRecord s i k with
    | none => k * e
    | some (_, r) =>
      if firstGap r.ranges 0 < e then k * e + firstGap r.ranges 0 else holeFrom s i e w (k + 1)

/-- The object offset at which the highest fill range of a stream's records ends; the retired edge times E when no record
holds a range above it (R18). -/
def highestEnd (s : State) (i : Nat) (c : Context) : Nat :=
  let e := extentBytes s.extentSize
  (recordsOf s i).foldl (fun m x => x.2.ranges.foldl (fun m r => max m (x.2.index * e + r.2)) m) (c.edge * e)

/-- The first hole of stream `i` (R18). -/
def firstHole (s : State) (i : Nat) (c : Context) : FirstHole :=
  let e := extentBytes s.extentSize
  let x := holeFrom s i e c.window.toList c.edge
  match c.length with
  | some l => .offset (min x l)
  | none => if x < highestEnd s i c then .offset x else .unknown

/-- The first hole reported for context `i`, `none` when it is FREE. -/
def firstHoleOf (s : State) (i : Nat) : Option FirstHole := (ctxOf s i).map (firstHole s i)

/-! ## Withdrawal and abort (R13, R14) -/

/-- Whether withdrawal frees a record: every state but CLAIMED (R14). -/
def withdrawable (st : ExtentState) : Bool := st != .claimed

/-- Withdrawal of the records of stream `i`, ascending (R14). -/
def withdrawExtents (s : State) (i : Nat) : State := freeExtents s (slotsOf s i withdrawable)

/-- How many records withdrawal frees. -/
def withdrawCount (s : State) (i : Nat) : Nat := (slotsOf s i withdrawable).length

/-- The state a stream enters by an abort: WITHDRAWING while a record of it is CLAIMED, otherwise FAILED (R13, step 4). -/
def abortedState (s : State) (i : Nat) : StreamState :=
  if (slotsOf s i (· == .claimed)).isEmpty then .failed else .withdrawing

/-- The effects of an abort on stream `i`, which is in OPEN, ENDING, DONE or FAILED (R13). -/
def abortStreamAt (s : State) (i : Nat) : State :=
  let s1 := withdrawExtents s i
  modCtx s1 i (fun c => { c with cause := some .aborted, phase := .off, state := abortedState s1 i })

end Sys2Proof.Machine
end

