-- ==== Sys2Proof/Machine/Records.lean ====
section
/-! DEFINITION. The layouts of the records the part produces (chapter 12): disposition records, response records and their
result words, port status words and drain answers. A reserved field reads as 0 (R196). -/
namespace Sys2Proof.Machine

/-- A value as `n` bytes, least significant first (00 section 5, byte order). -/
def leBytes : Nat → Nat → List Byte
  | 0, _ => []
  | n + 1, v => BitVec.ofNat 8 v :: leBytes n (v / 256)

/-- A flag as a bit. -/
def bitOf (b : Bool) : Nat := if b then 1 else 0

/-- A set of flags as a number, the flag named first in bit 0 (section 12.3). -/
def flagBits : List Bool → Nat
  | [] => 0
  | b :: bs => bitOf b + 2 * flagBits bs

/-- A value of one word. -/
def word (n : Nat) : Word := BitVec.ofNat 32 n

/-- A value wider than 32 bits: two words, low word first (section 12.3). -/
def words2 (n : Nat) : List Word := [word n, word (n / 2 ^ 32)]

/-! ## Result words (section 12.3) -/

/-- The codes of the statuses (section 12.3). -/
def statusCode : Status → Nat
  | .ok => 0x0000
  | .busy => 0x0001
  | .unknownStream => 0x0002
  | .tagInUse => 0x0003
  | .tableFull => 0x0004
  | .badState => 0x0005
  | .notInService => 0x0006
  | .checkConflict => 0x0007
  | .noSlot => 0x0008
  | .late => 0x0009
  | .noneEligible => 0x000A
  | .badArgument => 0x000B
  | .unknownCommand => 0x000C

/-- The codes of the stream states; FREE is 0 (section 12.3). -/
def streamStateCode : StreamState → Nat
  | .opened => 1
  | .ending => 2
  | .done => 3
  | .failed => 4
  | .withdrawing => 5

/-- The code of the state of context `i`, 0 when it is FREE. -/
def stateCodeOf (o : Option Context) : Nat :=
  match o with
  | none => 0
  | some c => streamStateCode c.state

/-- The codes of the timer phases (section 12.3). -/
def phaseCode : Phase → Nat
  | .off => 0
  | .gap => 1
  | .abandon => 2

/-- The codes of the window positions (section 12.3). -/
def winCode : WinPos → Nat
  | .absent => 0
  | .live => 1
  | .sealed => 2

/-- The code of a read mode as it is carried (section 12.3). -/
def modeCode : ReadMode → Nat
  | .terminated => 0
  | .padded => 1

/-- L: a form word and two value words (section 12.3). -/
def lengthWords : Option Nat → List Word
  | some l => word 0 :: words2 l
  | none => [word 2, 0, 0]

/-- An expected PCV: a form word and the words of S and T (section 12.3). -/
def pcvWords : Option Pcv → List Word
  | some p => [word 0, word p.s, word p.t]
  | none => [word 2, 0, 0]

/-- A first hole: a form word and two value words (section 12.3). -/
def holeWords : Option FirstHole → List Word
  | some (.offset x) => word 0 :: words2 x
  | some .unknown => [word 1, 0, 0]
  | none => [word 2, 0, 0]

/-- A last refusal reason: a form word and a disposition code (section 12.3). -/
def refusalWords : Option DispCode → List Word
  | some d => [word 0, word (dispCode d)]
  | none => [word 2, 0]

/-- A notice detail: a form word and two value words; that of a clear flag has form 2 (section 12.3). -/
def detailWords : Option NoticeDetail → List Word
  | some (.value n) => word 0 :: words2 n
  | some .unknown => [word 1, 0, 0]
  | none => [word 2, 0, 0]

/-- The number held by a run of window positions, position 0 in the lowest two bits (section 12.3). -/
def winBits : List WinPos → Nat
  | [] => 0
  | p :: ps => winCode p + 4 * winBits ps

/-- The 64 window positions in four words of sixteen (section 12.3). -/
def windowWords (w : Vector WinPos 64) : List Word :=
  [word (winBits (w.toList.take 16)), word (winBits ((w.toList.drop 16).take 16)),
   word (winBits ((w.toList.drop 32).take 16)), word (winBits ((w.toList.drop 48).take 16))]

/-- The five notice flags in the order FAILED, RETRY, STALL, PROTOCOL, DONE, in one word (section 12.3). -/
def noticeFlags (n : Notices) : Word :=
  word (flagBits [n.failed.isSome, n.retry.isSome, n.stall.isSome, n.protocol.isSome, n.done.isSome])

/-- The five notice flags followed by their details in the same order (section 12.3). -/
def noticeWords (n : Notices) : List Word :=
  noticeFlags n :: (detailWords (noticeOf n 0) ++ detailWords (noticeOf n 1) ++ detailWords (noticeOf n 2)
    ++ detailWords (noticeOf n 5) ++ detailWords (noticeOf n 7))

/-- The results of QUERY_STREAM in the order of R19. The two check-required flags stand in one word (DEDUCED, log 10). -/
def contextWords (c : Context) (hole : FirstHole) : List Word :=
  [c.tag, word (streamStateCode c.state), word (causeCode c.cause), word c.group, word c.queue.val,
   word (flagBits [c.extentCheck, c.objectCheck])]
  ++ lengthWords c.length ++ pcvWords c.expected ++ [word c.edge] ++ windowWords c.window
  ++ [word c.held, word c.retryLimit, word c.compareA, word c.compareB, word c.count, word (phaseCode c.phase)]
  ++ noticeWords c.notices ++ refusalWords c.lastRefusal ++ holeWords (some hole)

/-- The results of READ_STREAM_COUNTERS: the five counters in the order of R180, then their saturated flags. -/
def streamCounterWords (k : StreamCounters) : List Word :=
  words2 k.accepted.value ++ words2 k.duplicate.value
  ++ [word k.refused.value, word k.retries.value, word k.storeFailures.value,
      word (flagBits [k.accepted.saturated, k.duplicate.saturated, k.refused.saturated, k.retries.saturated,
        k.storeFailures.saturated])]

/-- The five counters of a link in the order of R181. -/
def linkWords (k : LinkCounters) : List Word :=
  words2 k.arrivals.value ++ words2 k.accepted.value ++ words2 k.duplicate.value
  ++ [word k.refused.value, word k.unknownStream.value]

/-- The five saturated flags of a link in the order of R181. -/
def linkFlags (k : LinkCounters) : List Bool :=
  [k.arrivals.saturated, k.accepted.saturated, k.duplicate.saturated, k.refused.saturated, k.unknownStream.saturated]

/-- The results of READ_SNAPSHOT: the captured values in the order of R184 (section 12.3). -/
def snapshotWords (v : SnapshotValues) : List Word :=
  linkWords v.links[0] ++ linkWords v.links[1] ++ linkWords v.links[2] ++ linkWords v.links[3]
  ++ [word (flagBits (linkFlags v.links[0] ++ linkFlags v.links[1] ++ linkFlags v.links[2] ++ linkFlags v.links[3]))]
  ++ [word v.freeSlots] ++ v.ready.map word
  ++ [word v.claims, word v.free, word v.opened, word v.ending, word v.done, word v.failed, word v.withdrawing]

/-- The summary fields of DRAIN_STATUS as result words: the four ready counts, the holds in one word, the free claims
(R156, DEDUCED, log 10). -/
def summaryWords (d : DrainSummary) : List Word :=
  d.ready.map word ++ [word (flagBits d.hold), word d.freeClaims]

/-- A response record as words: the two words of its header, then its result words (section 12.3). -/
def responseWords (r : Response) : List Word :=
  [word (statusCode r.status + r.results.length % 256 * 65536), word r.tag.toNat] ++ r.results

/-- The empty indication (section 12.3). -/
def emptyIndication : List Word := [word 0xFFFF, 0]

/-- The two words of the port status (R190, section 12.3). -/
def portStatusWords (s : State) : List Word :=
  [word (Config.commandCapacity - s.commands.length + 256 * s.responses.length),
   word (bitOf (attentionLine s) + 2 * bitOf s.overrun)]

/-! ## Disposition record (section 12.1) -/

/-- The first-hole form and the first-hole field of a disposition record. -/
def holeBytes : Option FirstHole → Nat × Nat
  | some (.offset x) => (0, x)
  | some .unknown => (1, 0)
  | none => (2, 0)

/-- The 16 bytes of a disposition record. -/
def dispositionBytes (d : Disposition) : List Byte :=
  leBytes 1 (dispCode d.code) ++ leBytes 1 (holeBytes d.hole).1 ++ leBytes 2 d.newBytes ++ leBytes 4 d.tag.toNat
  ++ leBytes 6 (holeBytes d.hole).2 ++ leBytes 2 0

/-! ## Drain answers (section 12.2) -/

/-- The codes of the drain port's statuses; DATA is 0x00. -/
def drainCode : DrainStatus → Nat
  | .released => 0x01
  | .releasedFailed => 0x02
  | .requeued => 0x03
  | .withdrawn => 0x04
  | .staleHandle => 0x10
  | .notClaimed => 0x11
  | .badOffset => 0x12
  | .unknownRequest => 0x1F

/-- The flags byte of a descriptor: LAST, UNCHECKED, RETRIED, REQUEUED, STREAM_FAILED from bit 0 up. -/
def descriptorFlags (d : Descriptor) : Nat :=
  flagBits [d.last, d.unchecked, d.retried, d.requeued, d.streamFailed]

/-- The 40 bytes of a readout record: a descriptor, a filler (FILLER flag, bit 5, every other field zero) or an END
record. -/
def readRecordBytes : ReadRecord → List Byte
  | .extent d =>
    leBytes 1 0x01 ++ leBytes 1 (descriptorFlags d) ++ leBytes 2 d.handle.slot ++ leBytes 1 d.handle.gen.toNat
    ++ leBytes 1 d.queue ++ leBytes 2 0 ++ leBytes 4 d.tag.toNat ++ leBytes 4 d.index ++ leBytes 6 d.offset ++ leBytes 2 0
    ++ leBytes 4 d.length ++ leBytes 4 d.pcv.s ++ leBytes 4 d.pcv.t ++ leBytes 4 0
  | .filler => leBytes 1 0x01 ++ leBytes 1 0x20 ++ leBytes 38 0
  | .endRecord => leBytes 1 0x02 ++ leBytes 39 0

/-- The 8-byte status record: the status, and the byte count for DATA. -/
def statusRecord (code n : Nat) : List Byte := leBytes 1 code ++ leBytes 3 0 ++ leBytes 4 n

/-- The bytes of a drain answer. -/
def answerBytes : DrainAnswer → List Byte
  | .records l => l.flatMap readRecordBytes
  | .data bytes => statusRecord 0x00 bytes.length ++ bytes
  | .status st => statusRecord (drainCode st) 0
  | .summary d =>
    d.ready.flatMap (leBytes 2) ++ leBytes 1 (flagBits d.hold) ++ leBytes 1 d.freeClaims ++ leBytes 2 0

end Sys2Proof.Machine
end

