-- ==== Sys2Proof/Machine/Arrivals.lean ====
section
/-! DEFINITION. The segment port (chapter 2): delivery of arrivals, the taking of SEGMENT, CHECK, TRAILER and unknown
arrivals with their admission checks and effects, and the acceptance of dispositions. A step that takes an arrival happens
when an arrival of its kind stands at the head of the input queue and no disposition is held (R28, R30); otherwise it
leaves the state as it is (DESIGN CHOICE, log 2). -/
namespace Sys2Proof.Machine

/-! ## Counting and answering (R34 to R37) -/

/-- The counters of a link changed by `f`. -/
def countLink (s : State) (link : Fin 4) (f : LinkCounters → LinkCounters) : State :=
  { s with links := s.links.set link (f s.links[link]) }

/-- The link counters after one more arrival (R37: any arrival). -/
def LinkCounters.arrival (k : LinkCounters) : LinkCounters := { k with arrivals := k.arrivals.add Config.max48 1 }

/-- The link counters after one more refused arrival (R37). -/
def LinkCounters.refusal (k : LinkCounters) : LinkCounters := { k with refused := k.refused.add Config.max32 1 }

/-- The link counters after one more arrival for an unknown stream (R37). -/
def LinkCounters.unknown (k : LinkCounters) : LinkCounters :=
  { k with unknownStream := k.unknownStream.add Config.max32 1 }

/-- The link counters after a segment of `n` new and `d` duplicate bytes (R37). -/
def LinkCounters.bytes (k : LinkCounters) (n d : Nat) : LinkCounters :=
  { k with accepted := k.accepted.add Config.max48 n, duplicate := k.duplicate.add Config.max48 d }

/-- The stream counters after a segment of `n` new and `d` duplicate bytes (R37). -/
def StreamCounters.bytes (k : StreamCounters) (n d : Nat) : StreamCounters :=
  { k with accepted := k.accepted.add Config.max48 n, duplicate := k.duplicate.add Config.max48 d }

/-- The stream counters after one more refused arrival (R37). -/
def StreamCounters.refusal (k : StreamCounters) : StreamCounters :=
  { k with refused := k.refused.add Config.max32 1 }

/-- The refusal codes that set the PROTOCOL notice (R36). -/
def DispCode.isProtocol : DispCode → Bool
  | .misaligned => true
  | .badLength => true
  | .beyondEnd => true
  | .lengthConflict => true
  | .checkConflict => true
  | .badCheckValue => true
  | .accepted => false
  | .partialNew => false
  | .duplicate => false
  | .late => false
  | .unknownStream => false
  | .streamFailed => false
  | .outOfWindow => false
  | .noSlot => false
  | .rangeLimit => false
  | .unknownKind => false

/-- What a refusal with `code` changes in the context of its stream (R35, R36): the refused-arrivals counter, the last
refusal reason and, for a protocol code on a stream in OPEN, ENDING or DONE, the PROTOCOL notice. -/
def refuseContext (code : DispCode) (c : Context) : Context :=
  { c with
    lastRefusal := some code
    counters := c.counters.refusal
    notices :=
      if code.isProtocol && (c.state.running || c.state == .done) then { c.notices with protocol := some code }
      else c.notices }

/-- The answer to an arrival on mapped context `i`: its disposition carries the first hole after the arrival (R30, R34). -/
def answerMapped (s : State) (i : Nat) (tag : Word) (code : DispCode) (newBytes : Nat) : State :=
  { s with disposition := some { code := code, tag := tag, newBytes := newBytes, hole := firstHoleOf s i } }

/-- The answer to an arrival refused with `code` on mapped context `i` (R35). -/
def refuseArrival (s : State) (i : Nat) (link : Fin 4) (tag : Word) (code : DispCode) : State :=
  answerMapped (modCtx (countLink s link LinkCounters.refusal) i (refuseContext code)) i tag code 0

/-- The answer UNKNOWN_STREAM (R38, step 1): the link counts a refused arrival for an unknown stream. -/
def refuseUnknownStream (s : State) (link : Fin 4) (tag : Word) : State :=
  { countLink s link (fun k => k.refusal.unknown) with
    disposition := some { code := .unknownStream, tag := tag, newBytes := 0, hole := none } }

/-! ## SEGMENT (R39 to R46) -/

/-- The part of a segment that falls inside one extent (R41): the extent index and the positions [start, stop) in it. -/
structure Piece where
  index : Nat
  start : Nat
  stop : Nat
deriving DecidableEq, Repr

/-- The pieces of the segment of `len` bytes at object offset `off` (R41). -/
def piecesOf (e off len : Nat) : List Piece :=
  let k1 := off / e
  let k2 := (off + len - 1) / e
  if k1 = k2 then [{ index := k1, start := off - k1 * e, stop := off + len - k1 * e }]
  else
    [{ index := k1, start := off - k1 * e, stop := e },
     { index := k2, start := 0, stop := off + len - k2 * e }]

/-- Where a piece falls (R42): a duplicate piece, a piece of the record bound to a slot, or a piece that needs a new
record. -/
inductive Place where
  | duplicate
  | live (slot : Nat) (ranges : List (Nat × Nat))
  | absent
deriving DecidableEq, Repr

/-- The place of a piece of stream `i` against the extent window (R42). A LIVE position has a record in every state a run
reaches (R20); where a state has none, the piece is taken as one in an ABSENT position (DESIGN CHOICE, log 13). -/
def placeOf (s : State) (i : Nat) (c : Context) (p : Piece) : Place :=
  if p.index < c.edge then .duplicate
  else
    match winGet c p.index with
    | .sealed => .duplicate
    | .absent => .absent
    | .live =>
      match unsealedRecord s i p.index with
      | none => .absent
      | some (slot, r) => .live slot r.ranges

/-- The sub-pieces of a piece in its place (R42, R75). -/
def runsOf (p : Piece) : Place → List (Nat × Nat)
  | .duplicate => []
  | .live _ rs => trimPiece rs p.start p.stop
  | .absent => [(p.start, p.stop)]

/-- Whether the piece would give its extent nine or more fill ranges (R43, R76). -/
def overRangeLimit (p : Piece) : Place → Bool
  | .duplicate => false
  | .live _ rs => decide (Config.maxRanges < countAfter rs p.start p.stop)
  | .absent => false

/-- Whether a place needs a new record (R44). -/
def needsRecord : Place → Bool
  | .duplicate => false
  | .live _ _ => false
  | .absent => true

/-- A piece that an admitted segment writes: the slot it goes to, whether a new record is created for it, and its
sub-pieces. -/
structure Target where
  piece : Piece
  slot : Nat
  fresh : Bool
  runs : List (Nat × Nat)
deriving DecidableEq, Repr

/-- The targets of the placed pieces: a piece that needs a record takes the slots of the free-slot list in turn (R58). A
piece without new bytes is no target. -/
def targetsOf : List Nat → List (Piece × Place) → List Target
  | _, [] => []
  | free, (_, .duplicate) :: ps => targetsOf free ps
  | free, (p, .live slot rs) :: ps =>
    if (trimPiece rs p.start p.stop).isEmpty then targetsOf free ps
    else { piece := p, slot := slot, fresh := false, runs := trimPiece rs p.start p.stop } :: targetsOf free ps
  | free, (p, .absent) :: ps =>
    { piece := p, slot := free.headD 0, fresh := true, runs := [(p.start, p.stop)] } :: targetsOf free.tail ps

/-- Step 3 for a SEGMENT (R39). -/
def segmentFormat (a : SegmentArrival) : Option DispCode :=
  if a.offset.toNat % 4 ≠ 0 then some .misaligned
  else if a.payload.length = 0 ∨ Config.maxPayload < a.payload.length then some .badLength
  else if a.final = false ∧ a.payload.length % 4 ≠ 0 then some .badLength
  else none

/-- The end of a segment, object offset plus payload length (R40). -/
def segmentEnd (a : SegmentArrival) : Nat := a.offset.toNat + a.payload.length

/-- Step 4 for a SEGMENT on stream `i` (R40). An end above 2^44 is BEYOND_END also for a FINAL segment on a stream of known
L, by the order of R40's cases, where R23 and R27 say LENGTH_CONFLICT (DEDUCED, log 21). -/
def segmentLength (s : State) (i : Nat) (c : Context) (a : SegmentArrival) : Option DispCode :=
  if Config.maxObject < segmentEnd a then some .beyondEnd
  else
    match c.length with
    | some l =>
      if a.final then (if segmentEnd a = l then none else some .lengthConflict)
      else if l < segmentEnd a then some .beyondEnd else none
    | none =>
      if a.final && lengthConflict s i c (segmentEnd a) then some .lengthConflict else none

/-- The pieces of a segment with their places (R41, R42). -/
def placedPieces (s : State) (i : Nat) (c : Context) (a : SegmentArrival) : List (Piece × Place) :=
  (piecesOf (extentBytes s.extentSize) a.offset.toNat a.payload.length).map (fun p => (p, placeOf s i c p))

/-- Steps 5 to 7 for a SEGMENT over its placed pieces (R42 to R44). -/
def segmentRoom (s : State) (c : Context) (ps : List (Piece × Place)) : Option DispCode :=
  if ps.any (fun x => decide (c.edge + Config.windowSize ≤ x.1.index)) then some .outOfWindow
  else if ps.any (fun x => overRangeLimit x.1 x.2) then some .rangeLimit
  else if s.freeSlots.length < (ps.filter (fun x => needsRecord x.2)).length then some .noSlot
  else none

/-- Steps 3 to 7 for a SEGMENT on a stream in OPEN, ENDING or DONE: the refusal code of the first step that fails, or the
targets of an admitted segment. On a stream in DONE a segment that passes step 4 is a duplicate (R46). -/
def segmentAdmission (s : State) (i : Nat) (c : Context) (a : SegmentArrival) : Except DispCode (List Target) :=
  match segmentFormat a with
  | some code => .error code
  | none =>
    match segmentLength s i c a with
    | some code => .error code
    | none =>
      if c.state = .done then .ok []
      else
        match segmentRoom s c (placedPieces s i c a) with
        | some code => .error code
        | none => .ok (targetsOf s.freeSlots (placedPieces s i c a))

/-- The new bytes of an admitted segment, over all its sub-pieces (R44). -/
def newBytesOf (ts : List Target) : Nat := (ts.map (fun t => runBytes t.runs)).sum

/-- The code of an admitted segment (R44), whatever its later steps cause (R45): a segment without a new byte whose L takes
its stream to DONE is a DUPLICATE, where R116 names only ACCEPTED, PARTIAL and OK (DEDUCED, log 19). -/
def segmentCode (ts : List Target) (len : Nat) : DispCode :=
  if newBytesOf ts = 0 then .duplicate else if newBytesOf ts = len then .accepted else .partialNew

/-- The payload bytes of the sub-piece [a, b) of extent `k`, of a segment at object offset `off`. -/
def payloadRun (e off : Nat) (payload : List Byte) (k a b : Nat) : List Byte :=
  (payload.drop (k * e + a - off)).take (b - a)

/-- Buffer memory after the sub-pieces of a piece are written to their slot (R78). -/
def writeRuns (m : List Host.Cell) (e off : Nat) (payload : List Byte) (slot k : Nat) :
    List (Nat × Nat) → List Host.Cell
  | [] => m
  | (a, b) :: rs => writeRuns (writeBytes m (slot * e + a) (payloadRun e off payload k a b)) e off payload slot k rs

/-- The accumulators after the sub-pieces of a piece are accumulated, each from its own word offset (R87). -/
def accumulateRuns (acc : Pcv) (e off : Nat) (payload : List Byte) (k : Nat) : List (Nat × Nat) → Pcv
  | [] => acc
  | (a, b) :: rs => accumulateRuns (accumulate acc (a / 4) (payloadRun e off payload k a b)) e off payload k rs

/-- Step 1 of R45: the records of the pieces in ABSENT positions. -/
def createTargets (s : State) (i : Nat) (ts : List Target) : State :=
  (ts.filter (·.fresh)).foldl (fun s t => createExtent s i t.piece.index none) s

/-- Step 2 of R45 for one piece: its sub-pieces are written, inserted and accumulated (R77, R78, R87). -/
def writeTarget (a : SegmentArrival) (s : State) (t : Target) : State :=
  match tabGet s.extents t.slot with
  | none => s
  | some r =>
    let e := extentBytes s.extentSize
    setExtent
      { s with mem := writeRuns s.mem e a.offset.toNat a.payload t.slot t.piece.index t.runs }
      t.slot
      { r with
        ranges := insertRange r.ranges t.piece.start t.piece.stop
        acc := accumulateRuns r.acc e a.offset.toNat a.payload t.piece.index t.runs }

/-- Step 3 of R45: a FINAL segment supplies L when L was unknown. -/
def segmentLearn (s : State) (i : Nat) (c : Context) (a : SegmentArrival) : State :=
  if a.final && c.length.isNone then learnLength s i (segmentEnd a) else s

/-- Step 6 of R45: the timer restarts when the segment wrote at least one new byte. -/
def segmentRestart (s : State) (i n : Nat) : State := if n = 0 then s else restartTimer s i

/-- The effects of an admitted SEGMENT, steps 1 to 6 of R45. An extent already routed at step 3 is not complete in FILLING
at step 4, and one freed earlier in the event is unbound, so step 4 passes over both. -/
def segmentEffects (s : State) (i : Nat) (c : Context) (a : SegmentArrival) (ts : List Target) : State :=
  let s1 := createTargets s i ts
  let s2 := ts.foldl (writeTarget a) s1
  let s3 := segmentLearn s2 i c a
  let s4 := ts.foldl (fun s t => routeComplete s t.slot) s3
  segmentRestart s4 i (newBytesOf ts)

/-- Step 7 of R45: the link and stream counters of a segment of `n` new bytes among `len` (R37). -/
def segmentCount (s : State) (i : Nat) (link : Fin 4) (n len : Nat) : State :=
  modCtx (countLink s link (fun k => k.bytes n (len - n))) i
    (fun c => { c with counters := c.counters.bytes n (len - n) })

/-- Whether every slot an admitted segment writes lies in the pool, and so in buffer memory (R51, R52). -/
def targetsInPool (s : State) (ts : List Target) : Bool :=
  ts.all (fun t => decide (t.slot < slotCount s.extentSize))

/-- The handling of a SEGMENT taken from the input queue (section 2.5). -/
def handleSegment (s : State) (a : SegmentArrival) : Host.Outcome State Fault Refusal :=
  let s := countLink s a.link LinkCounters.arrival
  match lookupTag s a.tag with
  | none => .next (refuseUnknownStream s a.link a.tag)
  | some (i, c) =>
    if c.state = .failed ∨ c.state = .withdrawing then .next (refuseArrival s i a.link a.tag .streamFailed)
    else
      match segmentAdmission s i c a with
      | .error code => .next (refuseArrival s i a.link a.tag code)
      | .ok ts =>
        if targetsInPool s ts then
          let n := newBytesOf ts
          let s := segmentEffects s i c a ts
          let s := segmentCount s i a.link n a.payload.length
          .next (answerMapped s i a.tag (segmentCode ts a.payload.length) n)
        else .fault .outsideBuffer

/-! ## CHECK (R47, R48) -/

/-- What the steps of a CHECK or SUPPLY_CHECK find for an extent of a stream: the position of its index (R47, R98). -/
inductive CheckPlace where
  | beyondEnd
  | outOfWindow
  | late
  | held (equal : Bool)
  | noSlot
  | store (slot : Nat)
  | create
deriving DecidableEq, Repr

/-- Whether L is known and extent index `k` is at or above N (R47, R98). -/
def pastLast (e : Nat) (l : Option Nat) (k : Nat) : Bool :=
  match l with
  | some len => decide (extentCount e len ≤ k)
  | none => false

/-- Steps 4 to 7 of R47, which are steps 4 to 7 of R98: the first that decides. A LIVE position without a record is taken
as an ABSENT one (DESIGN CHOICE, log 13). -/
def checkPlace (s : State) (i : Nat) (c : Context) (k : Nat) (v : Pcv) : CheckPlace :=
  let e := extentBytes s.extentSize
  if indexLimit e ≤ k ∨ pastLast e c.length k = true then .beyondEnd
  else if c.edge + Config.windowSize ≤ k then .outOfWindow
  else if k < c.edge then .late
  else
    let fresh : CheckPlace := if s.freeSlots.isEmpty then .noSlot else .create
    match winGet c k with
    | .sealed => .late
    | .absent => fresh
    | .live =>
      match unsealedRecord s i k with
      | none => fresh
      | some (slot, r) =>
        match r.expected with
        | some w => .held (decide (w = v))
        | none => .store slot

/-- The storing of an expected value in the existing record of a slot, with the compare that follows at once when its
extent is complete, in AWAIT_CHECK (R48 step 2, R71, R99 step 2). -/
def storeCheck (s : State) (slot : Nat) (v : Pcv) : State × ExtentOutcome :=
  match tabGet s.extents slot with
  | none => (s, .stored)
  | some r =>
    if r.state = .awaitCheck then compareExtent (setExtent s slot { r with expected := some v }) slot
    else (setExtent s slot { r with expected := some v }, .stored)

/-- The answer to an admitted CHECK or TRAILER, which changes no counter beyond the link's arrivals (R37). -/
def admitAnswer (s : State) (i : Nat) (tag : Word) (code : DispCode) : State := answerMapped s i tag code 0

/-- The handling of a CHECK taken from the input queue (R38, R47, R48). -/
def handleCheck (s : State) (a : CheckArrival) : State :=
  let s := countLink s a.link LinkCounters.arrival
  match lookupTag s a.tag with
  | none => refuseUnknownStream s a.link a.tag
  | some (i, c) =>
    if c.state = .failed ∨ c.state = .withdrawing then refuseArrival s i a.link a.tag .streamFailed
    else if c.state = .done then admitAnswer s i a.tag .late
    else if !pcvValid a.s a.t then refuseArrival s i a.link a.tag .badCheckValue
    else
      match checkPlace s i c a.index.toNat (pcvOfWords a.s a.t) with
      | .beyondEnd => refuseArrival s i a.link a.tag .beyondEnd
      | .outOfWindow => refuseArrival s i a.link a.tag .outOfWindow
      | .late => admitAnswer s i a.tag .late
      | .held true => admitAnswer s i a.tag .duplicate
      | .held false => refuseArrival s i a.link a.tag .checkConflict
      | .noSlot => refuseArrival s i a.link a.tag .noSlot
      | .store slot =>
        admitAnswer (restartTimer (storeCheck s slot (pcvOfWords a.s a.t)).1 i) i a.tag .accepted
      | .create =>
        admitAnswer (restartTimer (createExtent s i a.index.toNat (some (pcvOfWords a.s a.t))) i) i a.tag .accepted

/-! ## TRAILER (R49, R50) -/

/-- Whether a TRAILER carries a value with a component at or above M (R49, step 3). -/
def trailerPcvBad (a : TrailerArrival) : Bool :=
  match a.pcv with
  | some (x, y) => !pcvValid x y
  | none => false

/-- Whether the object length of a TRAILER differs from a known L, or fails a test of R24 when L is unknown (R49,
step 4). -/
def trailerLengthBad (s : State) (i : Nat) (c : Context) (l : Nat) : Bool :=
  match c.length with
  | some known => decide (known ≠ l)
  | none => lengthConflict s i c l

/-- Whether a TRAILER carries a value that differs from the expected object PCV held (R49, step 6). -/
def trailerPcvDiffers (a : TrailerArrival) (c : Context) : Bool :=
  match a.pcv, c.expected with
  | some (x, y), some v => decide (pcvOfWords x y ≠ v)
  | _, _ => false

/-- Steps 3 to 6 of R49: the code of the first step that decides, `none` for an admitted TRAILER. The refusals of step 3
come before LENGTH_CONFLICT, which R23 gives whatever else the arrival carries (DEDUCED, log 21). -/
def trailerCode (s : State) (i : Nat) (c : Context) (a : TrailerArrival) : Option DispCode :=
  if Config.maxObject < a.length.toNat then some .badLength
  else if trailerPcvBad a then some .badCheckValue
  else if trailerLengthBad s i c a.length.toNat then some .lengthConflict
  else if trailerPcvDiffers a c then some .checkConflict
  else if c.state = .done ∧ a.pcv.isSome ∧ c.expected.isNone then some .late
  else if c.length.isSome ∧ (a.pcv.isNone ∨ c.expected.isSome) then some .duplicate
  else none

/-- The storing of an expected object PCV by stream `i` (R50 step 1, R102): for a stream in ENDING the DONE evaluation
follows at once. -/
def storeObjectCheck (s : State) (i : Nat) (v : Pcv) : State :=
  evalDone (modCtx s i (fun c => { c with expected := some v })) i

/-- Step 1 of R50: a value present in the TRAILER is stored when the stream holds none. -/
def trailerStore (s : State) (i : Nat) (c : Context) (a : TrailerArrival) : State :=
  match a.pcv with
  | some (x, y) => if c.expected.isNone then storeObjectCheck s i (pcvOfWords x y) else s
  | none => s

/-- The effects of an admitted TRAILER (R50): the value, the length, the timer. -/
def trailerEffects (s : State) (i : Nat) (c : Context) (a : TrailerArrival) : State :=
  let s1 := trailerStore s i c a
  let s2 := if c.length.isNone then learnLength s1 i a.length.toNat else s1
  if a.pcv.isSome && c.expected.isNone then restartTimer s2 i else s2

/-- The handling of a TRAILER taken from the input queue (R38, R49, R50). -/
def handleTrailer (s : State) (a : TrailerArrival) : State :=
  let s := countLink s a.link LinkCounters.arrival
  match lookupTag s a.tag with
  | none => refuseUnknownStream s a.link a.tag
  | some (i, c) =>
    if c.state = .failed ∨ c.state = .withdrawing then refuseArrival s i a.link a.tag .streamFailed
    else
      match trailerCode s i c a with
      | some .late => admitAnswer s i a.tag .late
      | some .duplicate => admitAnswer s i a.tag .duplicate
      | some code => refuseArrival s i a.link a.tag code
      | none => admitAnswer (trailerEffects s i c a) i a.tag .accepted

/-! ## The commands -/

/-- ARRIVAL_DELIVERY (R29): the handshake places the arrival at the tail of the input queue while the stop is withdrawn.
While the stop is asserted it does not complete, and the arrival stays with the protocol engine (DEDUCED, log 3). -/
def execArrivalDelivery (a : Arrival) (s : State) : Host.Outcome State Fault Refusal :=
  if stopAsserted s then .next s else .next { s with inputQueue := s.inputQueue ++ [a] }

/-- SEGMENT (R39 to R46). -/
def execSegment (s : State) : Host.Outcome State Fault Refusal :=
  match s.inputQueue, s.disposition with
  | .segment a :: rest, none => handleSegment { s with inputQueue := rest } a
  | _, _ => .next s

/-- CHECK (R47, R48). -/
def execCheck (s : State) : Host.Outcome State Fault Refusal :=
  match s.inputQueue, s.disposition with
  | .check a :: rest, none => .next (handleCheck { s with inputQueue := rest } a)
  | _, _ => .next s

/-- TRAILER (R49, R50). -/
def execTrailer (s : State) : Host.Outcome State Fault Refusal :=
  match s.inputQueue, s.disposition with
  | .trailer a :: rest, none => .next (handleTrailer { s with inputQueue := rest } a)
  | _, _ => .next s

/-- UNKNOWN_KIND (R197): the link counts an arrival and a refused arrival, and nothing else changes. -/
def execUnknownKind (s : State) : Host.Outcome State Fault Refusal :=
  match s.inputQueue, s.disposition with
  | .unknown a :: rest, none =>
    .next
      { countLink { s with inputQueue := rest } a.link (fun k => k.arrival.refusal) with
        disposition := some { code := .unknownKind, tag := a.tag, newBytes := 0, hole := none } }
  | _, _ => .next s

/-- DISPOSITION_ACCEPT (R30): the protocol engine accepts the held disposition record. -/
def execDispositionAccept (s : State) : Host.Outcome State Fault Refusal :=
  match s.disposition with
  | none => .next s
  | some d => .next { s with disposition := none, segmentOut := dispositionBytes d }

end Sys2Proof.Machine
end

