-- ==== Sys2Proof/Machine/Operands.lean ====
section
/-! DEFINITION. The operands of the control port's commands: the command codes (section 12.3), the argument words, and the
clamps that the rules state. Bits of an argument word above the width at which its rule carries the argument are ignored
(R196). -/
namespace Sys2Proof.Machine

/-- The commands the part knows (section 12.3). -/
inductive CommandKind where
  | openStream
  | closeStream
  | abortStream
  | abortGroup
  | queryStream
  | supplyCheck
  | supplyObjectCheck
  | configurePool
  | setStreamTimers
  | setGroupTimers
  | setTimerDefaults
  | setQueue
  | releaseHold
  | drainStatus
  | setStoreLimit
  | ackAttention
  | endAttention
  | setClass
  | setThreshold
  | fetchNotices
  | readStreamCounters
  | snapshot
  | readSnapshot
  | queryEngine
  | resetEngine
deriving DecidableEq, Repr

/-- The command of a command code, `none` when the part knows no such code (section 12.3). -/
def commandKind (code : BitVec 16) : Option CommandKind :=
  match code.toNat with
  | 0x0001 => some .openStream
  | 0x0002 => some .closeStream
  | 0x0003 => some .abortStream
  | 0x0004 => some .abortGroup
  | 0x0005 => some .queryStream
  | 0x0006 => some .supplyCheck
  | 0x0007 => some .supplyObjectCheck
  | 0x0008 => some .configurePool
  | 0x000C => some .setStreamTimers
  | 0x000D => some .setGroupTimers
  | 0x000E => some .setTimerDefaults
  | 0x0010 => some .setQueue
  | 0x0011 => some .releaseHold
  | 0x0012 => some .drainStatus
  | 0x0013 => some .setStoreLimit
  | 0x0018 => some .ackAttention
  | 0x0019 => some .endAttention
  | 0x001A => some .setClass
  | 0x001B => some .setThreshold
  | 0x001C => some .fetchNotices
  | 0x0020 => some .readStreamCounters
  | 0x0021 => some .snapshot
  | 0x0022 => some .readSnapshot
  | 0x0030 => some .queryEngine
  | 0x0031 => some .resetEngine
  | _ => none

/-- The number of argument words a command defines (R196, section 12.3: one word each in the order of the command's rule;
seven for OPEN_STREAM). -/
def argWords : CommandKind → Nat
  | .openStream => 7
  | .closeStream => 1
  | .abortStream => 1
  | .abortGroup => 1
  | .queryStream => 1
  | .supplyCheck => 4
  | .supplyObjectCheck => 3
  | .configurePool => 2
  | .setStreamTimers => 3
  | .setGroupTimers => 3
  | .setTimerDefaults => 2
  | .setQueue => 5
  | .releaseHold => 1
  | .drainStatus => 0
  | .setStoreLimit => 1
  | .ackAttention => 0
  | .endAttention => 1
  | .setClass => 3
  | .setThreshold => 1
  | .fetchNotices => 2
  | .readStreamCounters => 2
  | .snapshot => 1
  | .readSnapshot => 0
  | .queryEngine => 0
  | .resetEngine => 0

/-- Argument word `i`. -/
def argWord (args : List Word) (i : Nat) : Word := args.getD i 0

/-- Argument `i` carried in a whole word. -/
def arg32 (args : List Word) (i : Nat) : Nat := (argWord args i).toNat

/-- Argument `i` carried in 16 bits. -/
def arg16 (args : List Word) (i : Nat) : Nat := arg32 args i % 65536

/-- Argument `i` carried as 0 to 255. -/
def arg8 (args : List Word) (i : Nat) : Nat := arg32 args i % 256

/-- Argument `i` carried as yes or no in bit 0 (section 12.3). -/
def argBool (args : List Word) (i : Nat) : Bool := (argWord args i).getLsbD 0

/-- The arguments of OPEN_STREAM (section 1.2.1), each optional part with its presence. -/
structure OpenArgs where
  tag : Word
  group : Nat
  queue : Nat
  extentCheck : Bool
  objectCheck : Bool
  length : Option Nat
  expected : Option (Word × Word)
  timers : Option (Nat × Nat)
  retryLimit : Option Nat
deriving DecidableEq, Repr

/-- The argument block of OPEN_STREAM (section 12.3). A part whose presence bit is clear is not read. -/
def openArgs (args : List Word) : OpenArgs :=
  let w1 := argWord args 1
  { tag := argWord args 0
    group := w1.toNat % 256
    queue := w1.toNat / 256 % 256
    extentCheck := w1.getLsbD 16
    objectCheck := w1.getLsbD 17
    length := if w1.getLsbD 20 then some (arg32 args 2 + 2 ^ 32 * arg32 args 3) else none
    expected := if w1.getLsbD 21 then some (argWord args 4, argWord args 5) else none
    timers := if w1.getLsbD 22 then some (arg32 args 6 % 65536, arg32 args 6 / 65536) else none
    retryLimit := if w1.getLsbD 23 then some (w1.toNat / 16777216) else none }

/-- A value clamped into `lo` to `hi`. -/
def clamp (lo hi n : Nat) : Nat := max lo (min hi n)

/-- The count of READ_READY: 0 is taken as 1 and a count above 32 as 32 (R143). -/
def readCount (count : BitVec 8) : Nat := clamp 1 32 count.toNat

/-- The count of CHAIN_READ: 0 is taken as 1 and a count above 128 as 128 (R161). -/
def chainCount (count : BitVec 8) : Nat := clamp 1 128 count.toNat

/-- The length of READ_DATA: 0 is taken as 1 and a length above 65536 as 65536 (R147). -/
def dataLength (length : BitVec 17) : Nat := clamp 1 65536 length.toNat

end Sys2Proof.Machine
end

