-- ==== Sys2Proof/Machine/Commands.lean ====
section
/-! DEFINITION. The taking of a command from the head of the command queue and the placing of its response (R188, R189,
R196), shared by every control-port command. -/
namespace Sys2Proof.Machine

/-- What a command's own rule answers: the state after it, the status and the result words (R189). -/
structure Reply where
  state : State
  status : Status
  results : List Word

/-- A refusal that changes nothing and carries no results (R189, R191). -/
def refuse (s : State) (status : Status) : Reply := { state := s, status := status, results := [] }

/-- An OK answer with its results. -/
def accept (s : State) (results : List Word) : Reply := { state := s, status := .ok, results := results }

/-- The response of a command placed at the tail of the response queue (R188, R189). -/
def placeResponse (tag : BitVec 16) (r : Reply) : State :=
  { r.state with responses := r.state.responses ++ [{ tag := tag, status := r.status, results := r.results }] }

/-- A command that its own rule handles as `body`. One whose argument word count is below the number it defines is refused
with BAD_ARGUMENT (R196), before its tag is looked up, although R2 looks the tag up before anything else (DEDUCED,
log 20). -/
def runCommand (k : CommandKind) (args : List Word) (s : State) (body : List Word → State → Reply) : Reply :=
  if args.length < argWords k then refuse s .badArgument else body args s

/-- The taking of the command at the head of the command queue when it is of kind `k` and the response queue has a free
entry (R188). Otherwise the step leaves the state as it is: the command waits (DESIGN CHOICE, log 2). -/
def takeCommand (k : CommandKind) (body : List Word → State → Reply) (s : State) : Host.Outcome State Fault Refusal :=
  match s.commands with
  | [] => .next s
  | c :: rest =>
    if commandKind c.code = some k ∧ s.responses.length < Config.responseCapacity then
      .next (placeResponse c.tag (runCommand k c.args { s with commands := rest } body))
    else .next s

end Sys2Proof.Machine
end

