-- ==== Sys2Proof/Machine/Attention.lean ====
section
/-! DEFINITION. The attention controller's commands (chapter 9). -/
namespace Sys2Proof.Machine

/-- ACK_ATTENTION (R172). -/
def ackAttention (_args : List Word) (s : State) : Reply :=
  match mostUrgent s.priority (attentionClasses.filter (classEligible s)) with
  | none => refuse s .noneEligible
  | some c => accept { s with inService := s.inService.set c true } [word c.val, word s.priority[c]]

/-- The holds after the end of service of a class: for class 0, STREAM_FAILED, all four are cleared (R155, R173). -/
def holdAfterEnd (s : State) (c : Fin 8) : Vector Bool 4 :=
  if c = 0 then Vector.replicate 4 false else s.hold

/-- END_ATTENTION (R173). -/
def endAttention (args : List Word) (s : State) : Reply :=
  if 7 < arg8 args 0 then refuse s .badArgument
  else
    let c := Fin.ofNat 8 (arg8 args 0)
    if s.inService[c] then accept { s with inService := s.inService.set c false, hold := holdAfterEnd s c } []
    else refuse s .notInService

/-- SET_CLASS (R174). The mask argument is yes for masked (DEDUCED, log 10). -/
def setClass (args : List Word) (s : State) : Reply :=
  if 7 < arg8 args 0 then refuse s .badArgument
  else
    let c := Fin.ofNat 8 (arg8 args 0)
    if s.inService[c] then refuse s .busy
    else
      let p := min 7 (arg8 args 1)
      let m := argBool args 2
      accept { s with priority := s.priority.set c p, masked := s.masked.set c m } [word p, word (bitOf m)]

/-- SET_THRESHOLD (R175). -/
def setThreshold (args : List Word) (s : State) : Reply :=
  let t := min 7 (arg8 args 0)
  accept { s with threshold := t } [word t]

/-- Whether an attention class has per-stream flags (R178). -/
def noticeClass (cls : Nat) : Bool := cls == 0 || cls == 1 || cls == 2 || cls == 5 || cls == 7

/-- The contexts whose notice flag of a class is set, in ascending index (R178). -/
def noticed (s : State) (cls : Nat) : List (Nat × Context) :=
  s.contexts.filter (fun e => (noticeOf e.2.notices cls).isSome)

/-- An entry of the answer of FETCH_NOTICES: the tag and the detail of the flag (R178, section 12.3). -/
def noticeEntry (cls : Nat) (e : Nat × Context) : List Word :=
  e.2.tag :: detailWords (noticeOf e.2.notices cls)

/-- The state with the flag of a class cleared in context `i` (R178). -/
def clearNoticeAt (cls : Nat) (s : State) (i : Nat) : State :=
  modCtx s i (fun c => { c with notices := clearNotice c.notices cls })

/-- FETCH_NOTICES (R178). -/
def fetchNotices (args : List Word) (s : State) : Reply :=
  let cls := arg8 args 0
  if !noticeClass cls then refuse s .badArgument
  else
    let taken := (noticed s cls).take (clamp 1 8 (arg8 args 1))
    let more := decide (taken.length < (noticed s cls).length)
    accept ((taken.map (·.1)).foldl (clearNoticeAt cls) s)
      ([word taken.length, word (bitOf more)] ++ taken.flatMap (noticeEntry cls))

/-- ACK_ATTENTION, taken from the command queue. -/
def execAckAttention (s : State) : Host.Outcome State Fault Refusal := takeCommand .ackAttention ackAttention s

/-- END_ATTENTION, taken from the command queue. -/
def execEndAttention (s : State) : Host.Outcome State Fault Refusal := takeCommand .endAttention endAttention s

/-- SET_CLASS, taken from the command queue. -/
def execSetClass (s : State) : Host.Outcome State Fault Refusal := takeCommand .setClass setClass s

/-- SET_THRESHOLD, taken from the command queue. -/
def execSetThreshold (s : State) : Host.Outcome State Fault Refusal := takeCommand .setThreshold setThreshold s

/-- FETCH_NOTICES, taken from the command queue. -/
def execFetchNotices (s : State) : Host.Outcome State Fault Refusal := takeCommand .fetchNotices fetchNotices s

end Sys2Proof.Machine
end

