-- ==== Sys2Proof/Machine/Drain.lean ====
section
/-! DEFINITION. The drain unit (chapter 7): readout of one queue, data reads, releases, the drain status in its two forms,
and the commands that set a queue's parameters and clear its hold. A drain request is taken while no answer waits; while one
waits the handshake does not complete and the request stays with the flush engine (R133, DEDUCED, log 3). -/
namespace Sys2Proof.Machine

/-- The taking of a drain request (R133): its answer waits to be accepted. -/
def takeRequest (s : State) (body : State → State × DrainAnswer) : Host.Outcome State Fault Refusal :=
  match s.drainAnswer with
  | some _ => .next s
  | none => .next { (body s).1 with drainAnswer := some (body s).2 }

/-! ## Readout (R139 to R144) -/

/-- LAST (R141): L is known and k = N − 1. -/
def isLast (e : Nat) (c : Context) (k : Nat) : Bool :=
  match c.length with
  | some l => k + 1 == extentCount e l
  | none => false

/-- The descriptor of the extent of handle `h`, record `r` and stream context `c`, handed out from queue `q` (R140,
R141). -/
def descriptorFor (s : State) (q : Fin 4) (h : Handle) (r : Extent) (c : Context) : Descriptor :=
  { handle := h
    queue := q.val
    tag := c.tag
    index := r.index
    offset := r.index * extentBytes s.extentSize
    length := extentLength (extentBytes s.extentSize) c.length r.index
    pcv := r.acc
    last := isLast (extentBytes s.extentSize) c r.index
    unchecked := !r.checked
    retried := decide (0 < r.retries)
    requeued := decide (0 < r.storeAttempts)
    streamFailed := c.state == .failed }

/-- The descriptor formed for an entry of queue `q`. Every entry names a bound record of a stream in every state a run
reaches (R134); where a state has none, the descriptor's record fields are zero (DESIGN CHOICE, log 13). -/
def descriptorOf (s : State) (q : Fin 4) (h : Handle) : Descriptor :=
  match tabGet s.extents h.slot with
  | none =>
    { handle := h, queue := q.val, tag := 0, index := 0, offset := 0, length := 0, pcv := { s := 0, t := 0 }, last := false,
      unchecked := false, retried := false, requeued := false, streamFailed := false }
  | some r =>
    match ctxOf s r.stream with
    | some c => descriptorFor s q h r c
    | none =>
      { handle := h, queue := q.val, tag := 0, index := r.index, offset := 0, length := 0, pcv := r.acc, last := false,
        unchecked := false, retried := false, requeued := false, streamFailed := false }

/-- The extent table with the record of `slot` CLAIMED (R143, step 3). -/
def claimExtent (s : State) (slot : Nat) : Table Extent :=
  match tabGet s.extents slot with
  | none => s.extents
  | some r => tabSet s.extents slot { r with state := .claimed }

/-- The hand-out of the entry `h` at the head of queue `q`, with `rest` behind it (R143): the entry leaves the queue, its
record becomes CLAIMED and its handle enters the claim table. -/
def handOut (s : State) (q : Fin 4) (h : Handle) (rest : List Handle) : State :=
  { s with
    ready := s.ready.set q rest
    extents := claimExtent s h.slot
    claims := s.claims ++ [h] }

/-- The hand-out of up to `n` entries from the head of queue `q`, in queue order, with their descriptors (R143). -/
def handOutN : Nat → State → Fin 4 → State × List ReadRecord
  | 0, s, _ => (s, [])
  | n + 1, s, q =>
    match s.ready[q] with
    | [] => (s, [])
    | h :: rest =>
      let x := handOutN n (handOut s q h rest) q
      (x.1, .extent (descriptorOf s q h) :: x.2)

/-- r of R143: how many descriptors READ_READY hands out. -/
def readyRun (s : State) (q : Fin 4) (count : Nat) : Nat :=
  if s.hold[q] then 0 else min count (min (readyCount s q) (freeClaims s))

/-- What completes an answer of `r` descriptors to a READ_READY of `count` (R144). -/
def completion (mode : ReadMode) (count r : Nat) : List ReadRecord :=
  match mode with
  | .terminated => if r < count then [.endRecord] else []
  | .padded => List.replicate (count - r) .filler

/-- READ_READY with its clamped count (R143, R144). -/
def readReady (q : Fin 4) (count : Nat) (s : State) : State × DrainAnswer :=
  let r := readyRun s q count
  let x := handOutN r s q
  (x.1, .records (x.2 ++ completion s.params[q].mode count r))

/-! ## Handles and data (R146, R147) -/

/-- The judgement of a handle (R146): STALE_HANDLE, NOT_CLAIMED, or the record and the stream context of a current claim.
A slot at or above the slot count is never current (R52). -/
def judgeHandle (s : State) (h : Handle) : Except DrainStatus (Extent × Context) :=
  if genOf s h.slot ≠ h.gen then .error .staleHandle
  else if h.slot < slotCount s.extentSize ∧ h ∈ s.claims then
    match tabGet s.extents h.slot with
    | none => .error .notClaimed
    | some r =>
      match ctxOf s r.stream with
      | none => .error .notClaimed
      | some c => .ok (r, c)
  else .error .notClaimed

/-- READ_DATA (R147). It changes no state. -/
def readData (h : Handle) (offset length : Nat) (s : State) : State × DrainAnswer :=
  match judgeHandle s h with
  | .error st => (s, .status st)
  | .ok (r, c) =>
    let e := extentBytes s.extentSize
    let len := extentLength e c.length r.index
    if len ≤ offset then (s, .status .badOffset)
    else (s, .data (readBytes s.mem (h.slot * e + offset) (min length (len - offset))))

/-! ## Releases (R148 to R151) -/

/-- A FAILED_STORE release counts one store failure of its stream (R148). -/
def countStoreFailure (s : State) (i : Nat) : State :=
  modCtx s i (fun c =>
    { c with counters := { c.counters with storeFailures := c.counters.storeFailures.add Config.max16 1 } })

/-- The counting of a release, by its outcome (R148). -/
def countRelease (s : State) (i : Nat) (outcome : StoreOutcome) : State :=
  match outcome with
  | .stored => s
  | .failedStore => countStoreFailure s i

/-- The release of a claim on a stream in WITHDRAWING (R15): the record is freed, and when no claim of the stream remains
the stream enters FAILED with cause ABORTED. -/
def releaseWithdrawn (s : State) (slot i : Nat) : State :=
  let s1 := freeExtent s slot
  if (slotsOf s1 i (· == .claimed)).isEmpty then
    modCtx s1 i (fun c => { c with state := .failed, cause := some .aborted })
  else s1

/-- The requeue of a claimed record (R150): its store attempts rise by one, its handle leaves the claim table and joins
the tail of its stream's queue, READY. -/
def requeueExtent (s : State) (h : Handle) (r : Extent) (q : Fin 4) : State :=
  { s with
    extents := tabSet s.extents h.slot { r with state := .ready, storeAttempts := r.storeAttempts + 1 }
    claims := s.claims.filter (fun x => x != h)
    ready := s.ready.set q (s.ready[q] ++ [h]) }

/-- RELEASE of a current claim `h`, record `r`, stream context `c` (R148 to R151). The released record is freed before the
unsealed records of a stream that fails with it, as R151 says; the last words of R60 order all the records of one event by
slot number (DEDUCED, log 18). -/
def releaseClaim (s : State) (h : Handle) (r : Extent) (c : Context) (outcome : StoreOutcome) : State × DrainStatus :=
  let s1 := countRelease s r.stream outcome
  if c.state = .withdrawing then (releaseWithdrawn s1 h.slot r.stream, .withdrawn)
  else
    match outcome with
    | .stored => (freeExtent s1 h.slot, if c.state = .failed then .releasedFailed else .released)
    | .failedStore =>
      if r.storeAttempts + 1 < s.storeLimit then (requeueExtent s1 h r c.queue, .requeued)
      else (failStream (freeExtent s1 h.slot) r.stream .store, .releasedFailed)

/-- RELEASE (R148). -/
def releaseHandle (h : Handle) (outcome : StoreOutcome) (s : State) : State × DrainAnswer :=
  match judgeHandle s h with
  | .error st => (s, .status st)
  | .ok (r, c) =>
    let x := releaseClaim s h r c outcome
    (x.1, .status x.2)

/-! ## Drain status (R156) -/

/-- The summary of the drain unit (R156). -/
def drainSummary (s : State) : DrainSummary :=
  { ready := [readyCount s 0, readyCount s 1, readyCount s 2, readyCount s 3]
    hold := [s.hold[0], s.hold[1], s.hold[2], s.hold[3]]
    freeClaims := freeClaims s }

/-! ## The drain requests -/

/-- READ_READY (R143, R144). -/
def execReadReady (q : Fin 4) (count : BitVec 8) (s : State) : Host.Outcome State Fault Refusal :=
  takeRequest s (readReady q (readCount count))

/-- READ_DATA (R147). -/
def execReadData (h : Handle) (offset : Word) (length : BitVec 17) (s : State) : Host.Outcome State Fault Refusal :=
  takeRequest s (readData h offset.toNat (dataLength length))

/-- RELEASE (R148). -/
def execRelease (h : Handle) (outcome : StoreOutcome) (s : State) : Host.Outcome State Fault Refusal :=
  takeRequest s (releaseHandle h outcome)

/-- DRAIN_STATUS_REQUEST (R156). -/
def execDrainStatusRequest (s : State) : Host.Outcome State Fault Refusal :=
  takeRequest s (fun s => (s, .summary (drainSummary s)))

/-- UNKNOWN_REQUEST (R133): answered UNKNOWN_REQUEST whatever its kind byte, and nothing changes. -/
def execUnknownRequest (_kind : Byte) (s : State) : Host.Outcome State Fault Refusal :=
  takeRequest s (fun s => (s, .status .unknownRequest))

/-- DRAIN_ANSWER_ACCEPT (R133): the flush engine accepts the waiting answer. -/
def execDrainAnswerAccept (s : State) : Host.Outcome State Fault Refusal :=
  match s.drainAnswer with
  | none => .next s
  | some a => .next { s with drainAnswer := none, drainOut := answerBytes a }

/-! ## The drain unit's commands -/

/-- SET_QUEUE (R136). -/
def setQueue (args : List Word) (s : State) : Reply :=
  if 3 < arg32 args 0 then refuse s .badArgument
  else
    let p : QueueParams :=
      { weight := min 127 (arg8 args 1)
        member := argBool args 2
        watermark := clamp 1 4096 (arg16 args 3)
        mode := if argBool args 4 then .padded else .terminated }
    accept { s with params := s.params.set (Fin.ofNat 4 (arg32 args 0)) p }
      [word p.weight, word (bitOf p.member), word p.watermark, word (modeCode p.mode)]

/-- RELEASE_HOLD (R155). -/
def releaseHold (args : List Word) (s : State) : Reply :=
  if 3 < arg32 args 0 then refuse s .badArgument
  else
    let q := Fin.ofNat 4 (arg32 args 0)
    accept { s with hold := s.hold.set q false } [word (readyCount s q)]

/-- DRAIN_STATUS, the command (R156). -/
def drainStatus (_args : List Word) (s : State) : Reply := accept s (summaryWords (drainSummary s))

/-- SET_STORE_LIMIT (R193). -/
def setStoreLimit (args : List Word) (s : State) : Reply :=
  let n := clamp 1 7 (arg8 args 0)
  accept { s with storeLimit := n } [word n]

/-- SET_QUEUE, taken from the command queue. -/
def execSetQueue (s : State) : Host.Outcome State Fault Refusal := takeCommand .setQueue setQueue s

/-- RELEASE_HOLD, taken from the command queue. -/
def execReleaseHold (s : State) : Host.Outcome State Fault Refusal := takeCommand .releaseHold releaseHold s

/-- DRAIN_STATUS, taken from the command queue. -/
def execDrainStatus (s : State) : Host.Outcome State Fault Refusal := takeCommand .drainStatus drainStatus s

/-- SET_STORE_LIMIT, taken from the command queue. -/
def execSetStoreLimit (s : State) : Host.Outcome State Fault Refusal := takeCommand .setStoreLimit setStoreLimit s

end Sys2Proof.Machine
end

