-- ==== Sys2Proof/Machine/Chain.lean ====
section
/-! DEFINITION. The chained readout (chapter 8): the queue positions, the quotas and the walk of CHAIN_READ. -/
namespace Sys2Proof.Machine

/-- The position after a position in the fixed cycle of sixteen (R158). -/
def nextPosition (c : Cursor) : Cursor :=
  { round := if c.queue = 3 then c.round + 1 else c.round, queue := c.queue + 1 }

/-- The quota of a queue of weight `w` in a round (R160). -/
def quota (w round : Nat) : Nat := w / 4 + (if round < w % 4 then 1 else 0)

/-- Whether a queue is visited when the walk reaches it (R159). -/
def visited (s : State) (q : Fin 4) : Bool :=
  s.params[q].member && decide (0 < s.params[q].weight) && !s.hold[q]

/-- h of R162 step 3: how many descriptors the position of the cursor hands out. -/
def visitCount (s : State) (remaining : Nat) : Nat :=
  if visited s s.cursor.queue then
    min (quota s.params[s.cursor.queue].weight s.cursor.round.val)
      (min remaining (min (readyCount s s.cursor.queue) (freeClaims s)))
  else 0

/-- The walking of one position: its hand-out (R162 step 3) and the advance of the cursor (step 4). -/
def walkPosition (s : State) (remaining : Nat) : State × List ReadRecord :=
  let x := handOutN (visitCount s remaining) s s.cursor.queue
  ({ x.1 with cursor := nextPosition s.cursor }, x.2)

/-- The walk (R162): it stops at a full claim table (step 1), when the remaining count is 0 (step 5), or after four
consecutive positions without hand-out (step 6, R163), where `idle` counts them so far. `fuel` bounds the positions. -/
def chainWalk : Nat → State → Nat → Nat → State × List ReadRecord
  | 0, s, _, _ => (s, [])
  | fuel + 1, s, remaining, idle =>
    if Config.claimCapacity ≤ s.claims.length then (s, [])
    else
      let h := visitCount s remaining
      let x := walkPosition s remaining
      let idle' := if h = 0 then idle + 1 else 0
      if remaining - h = 0 ∨ idle' = 4 then x
      else
        let y := chainWalk fuel x.1 (remaining - h) idle'
        (y.1, x.2 ++ y.2)

/-- The positions a CHAIN_READ can walk at most: three without hand-out before each of at most 128 hand-outs, and an empty
pass of four. -/
def chainFuel : Nat := 516

/-- CHAIN_READ with its clamped count (R161, R162): the descriptors handed out, then one END record. -/
def chainRead (count : Nat) (s : State) : State × DrainAnswer :=
  let x := chainWalk chainFuel s count 0
  (x.1, .records (x.2 ++ [.endRecord]))

/-- CHAIN_READ (R161, R162). -/
def execChainRead (count : BitVec 8) (s : State) : Host.Outcome State Fault Refusal :=
  takeRequest s (chainRead (chainCount count))

end Sys2Proof.Machine
end

