-- ==== Sys2Proof/Machine/Checks.lean ====
section
/-! DEFINITION. The host's check commands (chapter 5): SUPPLY_CHECK and SUPPLY_OBJECT_CHECK. -/
namespace Sys2Proof.Machine

/-- The codes of the extent outcomes (section 12.3). -/
def outcomeCode : ExtentOutcome → Nat
  | .stored => 0
  | .sealed => 1
  | .retry => 2
  | .freed => 3

/-- The OK answer of SUPPLY_CHECK on context `i`: the extent outcome and the stream state after the command (R99). -/
def supplyAnswer (s : State) (i : Nat) (o : ExtentOutcome) : Reply :=
  accept s [word (outcomeCode o), word (stateCodeOf (ctxOf s i))]

/-- SUPPLY_CHECK (R98, R99). -/
def supplyCheck (args : List Word) (s : State) : Reply :=
  if !pcvValid (argWord args 2) (argWord args 3) then refuse s .badArgument
  else
    match lookupTag s (argWord args 0) with
    | none => refuse s .unknownStream
    | some (i, c) =>
      if c.state = .failed ∨ c.state = .withdrawing then refuse s .badState
      else if c.state = .done then refuse s .late
      else
        let k := arg32 args 1
        let v := pcvOfWords (argWord args 2) (argWord args 3)
        match checkPlace s i c k v with
        | .beyondEnd => refuse s .badArgument
        | .outOfWindow => refuse s .busy
        | .late => refuse s .late
        | .held true => supplyAnswer s i .stored
        | .held false => refuse s .checkConflict
        | .noSlot => refuse s .noSlot
        | .store slot => supplyAnswer (restartTimer (storeCheck s slot v).1 i) i (storeCheck s slot v).2
        | .create => supplyAnswer (restartTimer (createExtent s i k (some v)) i) i .stored

/-- The OK answer of SUPPLY_OBJECT_CHECK on context `i`: the stream state after the command (R102). -/
def supplyObjectAnswer (s : State) (i : Nat) : Reply := accept s [word (stateCodeOf (ctxOf s i))]

/-- SUPPLY_OBJECT_CHECK (R102). -/
def supplyObjectCheck (args : List Word) (s : State) : Reply :=
  if !pcvValid (argWord args 1) (argWord args 2) then refuse s .badArgument
  else
    match lookupTag s (argWord args 0) with
    | none => refuse s .unknownStream
    | some (i, c) =>
      if c.state = .failed ∨ c.state = .withdrawing then refuse s .badState
      else
        let v := pcvOfWords (argWord args 1) (argWord args 2)
        match c.expected with
        | some w => if w = v then supplyObjectAnswer s i else refuse s .checkConflict
        | none =>
          if c.state = .done then refuse s .late
          else supplyObjectAnswer (restartTimer (storeObjectCheck s i v) i) i

/-- SUPPLY_CHECK, taken from the command queue. -/
def execSupplyCheck (s : State) : Host.Outcome State Fault Refusal := takeCommand .supplyCheck supplyCheck s

/-- SUPPLY_OBJECT_CHECK, taken from the command queue. -/
def execSupplyObjectCheck (s : State) : Host.Outcome State Fault Refusal :=
  takeCommand .supplyObjectCheck supplyObjectCheck s

end Sys2Proof.Machine
end

