-- ==== Sys2Proof/Machine/Streams.lean ====
section
/-! DEFINITION. The stream commands (chapter 1): OPEN_STREAM, CLOSE_STREAM, ABORT_STREAM, ABORT_GROUP, QUERY_STREAM. -/
namespace Sys2Proof.Machine

/-- Whether an argument of OPEN_STREAM is out of range (R6, step 1). -/
def openBad (a : OpenArgs) : Bool :=
  decide (15 < a.group) || decide (3 < a.queue)
    || (match a.length with | some l => decide (Config.maxObject < l) | none => false)
    || (match a.expected with | some (x, y) => !pcvValid x y | none => false)

/-- The context that OPEN_STREAM sets up, before L is considered (R7). -/
def openContext (s : State) (a : OpenArgs) : Context :=
  let ab := a.timers.getD (s.defaultA, s.defaultB)
  { tag := a.tag
    state := .opened
    cause := none
    group := a.group
    queue := Fin.ofNat 4 a.queue
    extentCheck := a.extentCheck
    objectCheck := a.objectCheck
    length := none
    expected := a.expected.map (fun p => pcvOfWords p.1 p.2)
    acc := { s := 0, t := 0 }
    edge := 0
    window := Vector.replicate 64 .absent
    held := 0
    retryLimit := min 7 (a.retryLimit.getD 3)
    compareA := ab.1
    compareB := ab.2
    count := 0
    phase := startPhase ab.1 ab.2
    notices := .clear
    lastRefusal := none
    counters := .zero }

/-- A context just set up, with the L that OPEN_STREAM gives (R8). -/
def openWithLength (c : Context) (l : Option Nat) : Context :=
  match l with
  | none => c
  | some len => { c with state := .ending, length := some len }

/-- The table after OPEN_STREAM takes the FREE context `i` (R7, R8). The DONE evaluation acts when L was given. -/
def openAt (s : State) (i : Nat) (a : OpenArgs) : State :=
  evalDone (setCtx s i (openWithLength (openContext s a) a.length)) i

/-- OPEN_STREAM (R6 to R8). -/
def openStream (args : List Word) (s : State) : Reply :=
  let a := openArgs args
  if openBad a then refuse s .badArgument
  else if (lookupTag s a.tag).isSome then refuse s .tagInUse
  else
    match tabLowestFree s.contexts Config.contextCount 0 with
    | none => refuse s .tableFull
    | some i =>
      let t := openAt s i a
      accept t [word i, word (stateCodeOf (ctxOf t i))]

/-- CLOSE_STREAM (R17). Its notice flags leave with the context. -/
def closeStream (args : List Word) (s : State) : Reply :=
  match lookupTag s (argWord args 0) with
  | none => refuse s .unknownStream
  | some (i, c) =>
    if (c.state = .done ∨ c.state = .failed) ∧ c.held = 0 then
      accept { s with contexts := tabErase s.contexts i } []
    else refuse s .busy

/-- ABORT_STREAM (R13). -/
def abortStream (args : List Word) (s : State) : Reply :=
  match lookupTag s (argWord args 0) with
  | none => refuse s .unknownStream
  | some (i, c) =>
    if c.state = .withdrawing then accept s [word (streamStateCode .withdrawing), 0]
    else accept (abortStreamAt s i) [word (stateCodeOf (ctxOf (abortStreamAt s i) i)), word (withdrawCount s i)]

/-- The context indexes, ascending, of the streams whose context satisfies `p`. -/
def streamsWhere (s : State) (p : Context → Bool) : List Nat := (s.contexts.filter (fun e => p e.2)).map (·.1)

/-- ABORT_GROUP (R16). The slots join the free-slot list stream by stream, as R16 says; the last words of R60 order all the
records of one event by slot number (DEDUCED, log 18). -/
def abortGroup (args : List Word) (s : State) : Reply :=
  let g := arg32 args 0
  if 15 < g then refuse s .badArgument
  else
    let is := streamsWhere s (fun c => c.group == g && c.state != .withdrawing)
    accept (is.foldl abortStreamAt s) [word is.length]

/-- QUERY_STREAM (R19). -/
def queryStream (args : List Word) (s : State) : Reply :=
  match lookupTag s (argWord args 0) with
  | none => refuse s .unknownStream
  | some (i, c) => accept s (contextWords c (firstHole s i c))

/-- OPEN_STREAM, taken from the command queue. -/
def execOpenStream (s : State) : Host.Outcome State Fault Refusal := takeCommand .openStream openStream s

/-- CLOSE_STREAM, taken from the command queue. -/
def execCloseStream (s : State) : Host.Outcome State Fault Refusal := takeCommand .closeStream closeStream s

/-- ABORT_STREAM, taken from the command queue. -/
def execAbortStream (s : State) : Host.Outcome State Fault Refusal := takeCommand .abortStream abortStream s

/-- ABORT_GROUP, taken from the command queue. -/
def execAbortGroup (s : State) : Host.Outcome State Fault Refusal := takeCommand .abortGroup abortGroup s

/-- QUERY_STREAM, taken from the command queue. -/
def execQueryStream (s : State) : Host.Outcome State Fault Refusal := takeCommand .queryStream queryStream s

end Sys2Proof.Machine
end

