-- ==== Sys2Proof/Machine/Counters.lean ====
section
/-! DEFINITION. The counter unit's commands and the completion of a snapshot (chapter 10). -/
namespace Sys2Proof.Machine

/-- READ_STREAM_COUNTERS (R183). -/
def readStreamCounters (args : List Word) (s : State) : Reply :=
  match lookupTag s (argWord args 0) with
  | none => refuse s .unknownStream
  | some (i, c) =>
    accept (if argBool args 1 then setCtx s i { c with counters := .zero } else s) (streamCounterWords c.counters)

/-- The number of stream contexts in a state other than FREE. -/
def streamsIn (s : State) (st : StreamState) : Nat := (streamsWhere s (fun c => c.state == st)).length

/-- The values a snapshot captures (R184, step 1). -/
def captureValues (s : State) : SnapshotValues :=
  { links := s.links
    freeSlots := freeCount s
    ready := [readyCount s 0, readyCount s 1, readyCount s 2, readyCount s 3]
    claims := s.claims.length
    free := Config.contextCount - s.contexts.length
    opened := streamsIn s .opened
    ending := streamsIn s .ending
    done := streamsIn s .done
    failed := streamsIn s .failed
    withdrawing := streamsIn s .withdrawing }

/-- SNAPSHOT (R184). -/
def snapshotCommand (args : List Word) (s : State) : Reply :=
  match s.copy with
  | some _ => refuse s .busy
  | none =>
    accept
      { s with
        links := if argBool args 0 then Vector.replicate 4 .zero else s.links
        unread := false
        copy := some (captureValues s) }
      []

/-- READ_SNAPSHOT (R185). -/
def readSnapshot (_args : List Word) (s : State) : Reply :=
  match s.copy with
  | some _ => refuse s .busy
  | none => accept { s with unread := false } (snapshotWords s.area)

/-- READ_STREAM_COUNTERS, taken from the command queue. -/
def execReadStreamCounters (s : State) : Host.Outcome State Fault Refusal :=
  takeCommand .readStreamCounters readStreamCounters s

/-- SNAPSHOT, taken from the command queue. -/
def execSnapshot (s : State) : Host.Outcome State Fault Refusal := takeCommand .snapshot snapshotCommand s

/-- READ_SNAPSHOT, taken from the command queue. -/
def execReadSnapshot (s : State) : Host.Outcome State Fault Refusal := takeCommand .readSnapshot readSnapshot s

/-- SNAPSHOT_COMPLETION (R185): the captured values fill the area, the unread indication is set and the copy state becomes
IDLE. With no copy in flight the event does not occur (DESIGN CHOICE, log 2). -/
def execSnapshotCompletion (s : State) : Host.Outcome State Fault Refusal :=
  match s.copy with
  | none => .next s
  | some v => .next { s with area := v, unread := true, copy := none }

end Sys2Proof.Machine
end

