-- ==== Sys2Proof/Machine/Engine.lean ====
section
/-! DEFINITION. Power-on, the pool configuration (R53 to R55), the control port itself (R187 to R190) and the engine
commands (R192, R194, R198). -/
namespace Sys2Proof.Machine

/-- POWER_ON (R62 and the power-on value of every item). The bytes of the slots stay as they were (R51). -/
def execPowerOn (s : State) : Host.Outcome State Fault Refusal :=
  .next { State.reset with mem := s.mem, pending := s.pending }

/-- COMMAND_WRITE (R187): the record joins the tail of the command queue, or is discarded with the overrun flag set when
the queue holds 16 records. -/
def execCommandWrite (c : CommandRecord) (s : State) : Host.Outcome State Fault Refusal :=
  if s.commands.length < Config.commandCapacity then .next { s with commands := s.commands ++ [c] }
  else .next { s with overrun := true }

/-- RESPONSE_READ (R189): the head response is read and removed, or the empty indication is returned. -/
def execResponseRead (s : State) : Host.Outcome State Fault Refusal :=
  match s.responses with
  | [] => .next { s with controlOut := emptyIndication }
  | r :: rest => .next { s with responses := rest, controlOut := responseWords r }

/-- PORT_STATUS_READ (R190): the two words are returned and the overrun flag is cleared within the read. -/
def execPortStatusRead (s : State) : Host.Outcome State Fault Refusal :=
  .next { s with controlOut := portStatusWords s, overrun := false }

/-- CONFIGURE_POOL (R53 to R55). -/
def configurePool (args : List Word) (s : State) : Reply :=
  if s.contexts.isEmpty ∧ s.claims.isEmpty then
    let e := extentSizeOfArg (arg32 args 0)
    let n := slotCount e
    let low := min n (arg16 args 1)
    accept { s with extentSize := e, lowMark := low, freeSlots := List.range n }
      [word (extentBytes e), word n, word low]
  else refuse s .busy

/-- The identity word of QUERY_ENGINE: the revision in bits 0 to 15 and the family code in bits 16 to 31 (R192, section
12.3). -/
def identityWord : Word := word (Config.revision + 65536 * Config.familyCode)

/-- QUERY_ENGINE (R192). -/
def queryEngine (_args : List Word) (s : State) : Reply :=
  accept s
    [identityWord, word (slotCount s.extentSize), word (extentBytes s.extentSize), word (freeCount s)]

/-- RESET_ENGINE (R194): a copy in flight is abandoned; every bound record is freed in ascending slot number, which leaves
the ready queues and the claim table empty; every context becomes FREE; the free-slot list is rebuilt; the holds, the
cursor, the in-service flags, the link counters and the overrun flag are cleared. -/
def resetEngine (_args : List Word) (s : State) : Reply :=
  let f := freeExtents s (s.extents.map (·.1))
  accept
    { f with
      copy := none
      extents := []
      ready := Vector.replicate 4 []
      claims := []
      contexts := []
      freeSlots := List.range (slotCount s.extentSize)
      hold := Vector.replicate 4 false
      cursor := { round := 0, queue := 0 }
      inService := Vector.replicate 8 false
      links := Vector.replicate 4 .zero
      overrun := false }
    []

/-- CONFIGURE_POOL, taken from the command queue. -/
def execConfigurePool (s : State) : Host.Outcome State Fault Refusal := takeCommand .configurePool configurePool s

/-- QUERY_ENGINE, taken from the command queue. -/
def execQueryEngine (s : State) : Host.Outcome State Fault Refusal := takeCommand .queryEngine queryEngine s

/-- RESET_ENGINE, taken from the command queue. -/
def execResetEngine (s : State) : Host.Outcome State Fault Refusal := takeCommand .resetEngine resetEngine s

/-- UNKNOWN_COMMAND (R198): a command whose code the part does not know is taken in its turn and answered
UNKNOWN_COMMAND; it changes no state. -/
def execUnknownCommand (s : State) : Host.Outcome State Fault Refusal :=
  match s.commands with
  | [] => .next s
  | c :: rest =>
    if commandKind c.code = none ∧ s.responses.length < Config.responseCapacity then
      .next (placeResponse c.tag (refuse { s with commands := rest } .unknownCommand))
    else .next s

end Sys2Proof.Machine
end

