-- ==== Sys2Proof/Machine/Timers.lean ====
section
/-! DEFINITION. The stall timers (chapter 6): the advance of a timer at a tick with its two expiries, and the timer
commands. -/
namespace Sys2Proof.Machine

/-- Whether the timer of a context is advanced at a tick: the stream in OPEN or ENDING, the phase GAP or ABANDON (R121). -/
def timerRuns (c : Context) : Bool := c.state.running && c.phase != .off

/-- Whether the next advance of a context brings its count to A in phase GAP (R125). -/
def gapDue (c : Context) : Bool := timerRuns c && c.phase == .gap && c.count + 1 == c.compareA

/-- Whether the next advance of a context brings its count to B in phase ABANDON (R126). -/
def abandonDue (c : Context) : Bool := timerRuns c && c.phase == .abandon && c.count + 1 == c.compareB

/-- The gap expiry of context `i` (R125): the STALL notice takes the first hole, the count returns to 0 and the phase
becomes ABANDON or OFF. -/
def gapExpire (s : State) (i : Nat) (c : Context) : State :=
  setCtx s i
    { c with
      notices := { c.notices with stall := some (firstHole s i c) }
      count := 0
      phase := if 0 < c.compareB then .abandon else .off }

/-- The abandon expiry of context `i` (R126): the count takes the value B and the stream fails with cause STALL. -/
def abandonExpire (s : State) (i : Nat) (c : Context) : State :=
  failStream (setCtx s i { c with count := c.count + 1 }) i .stall

/-- The advance of the timer of context `i` at a tick, one event with the expiry it may bring (R121). Where the compare of
the starting phase is 1 and a restart comes just before the tick, R121 brings the expiry at that tick, while R128 and R129
say that it does not occur: R121 is followed (DESIGN CHOICE, log 17). -/
def advanceTimer (s : State) (i : Nat) : State :=
  match ctxOf s i with
  | none => s
  | some c =>
    if gapDue c then gapExpire s i c
    else if abandonDue c then abandonExpire s i c
    else if timerRuns c then setCtx s i { c with count := c.count + 1 }
    else s

/-- TIMER_ADVANCE (R121). -/
def execTimerAdvance (ctx : Fin 1024) (s : State) : Host.Outcome State Fault Refusal := .next (advanceTimer s ctx.val)

/-- GAP_EXPIRY (R125): the advance that brings the count to A in phase GAP. Where the next advance does not, the event does
not occur (DEDUCED, log 4). -/
def execGapExpiry (ctx : Fin 1024) (s : State) : Host.Outcome State Fault Refusal :=
  match ctxOf s ctx.val with
  | none => .next s
  | some c => if gapDue c then .next (gapExpire s ctx.val c) else .next s

/-- ABANDON_EXPIRY (R126): the advance that brings the count to B in phase ABANDON. Where the next advance does not, the
event does not occur (DEDUCED, log 4). -/
def execAbandonExpiry (ctx : Fin 1024) (s : State) : Host.Outcome State Fault Refusal :=
  match ctxOf s ctx.val with
  | none => .next s
  | some c => if abandonDue c then .next (abandonExpire s ctx.val c) else .next s

/-- A context with new compares and its timer restarted (R130). -/
def setTimers (a b : Nat) (c : Context) : Context := startTimer { c with compareA := a, compareB := b }

/-- SET_STREAM_TIMERS (R130). -/
def setStreamTimers (args : List Word) (s : State) : Reply :=
  match lookupTag s (argWord args 0) with
  | none => refuse s .unknownStream
  | some (i, c) =>
    if c.state.running then
      let d := setTimers (arg16 args 1) (arg16 args 2) c
      accept (setCtx s i d) [word (phaseCode d.phase)]
    else refuse s .badState

/-- SET_GROUP_TIMERS (R131). -/
def setGroupTimers (args : List Word) (s : State) : Reply :=
  let g := arg32 args 0
  if 15 < g then refuse s .badArgument
  else
    let is := streamsWhere s (fun c => c.group == g && c.state.running)
    accept (is.foldl (fun s i => modCtx s i (setTimers (arg16 args 1) (arg16 args 2))) s) [word is.length]

/-- SET_TIMER_DEFAULTS (R132). -/
def setTimerDefaults (args : List Word) (s : State) : Reply :=
  accept { s with defaultA := arg16 args 0, defaultB := arg16 args 1 } [word (arg16 args 0), word (arg16 args 1)]

/-- SET_STREAM_TIMERS, taken from the command queue. -/
def execSetStreamTimers (s : State) : Host.Outcome State Fault Refusal := takeCommand .setStreamTimers setStreamTimers s

/-- SET_GROUP_TIMERS, taken from the command queue. -/
def execSetGroupTimers (s : State) : Host.Outcome State Fault Refusal := takeCommand .setGroupTimers setGroupTimers s

/-- SET_TIMER_DEFAULTS, taken from the command queue. -/
def execSetTimerDefaults (s : State) : Host.Outcome State Fault Refusal :=
  takeCommand .setTimerDefaults setTimerDefaults s

end Sys2Proof.Machine
end

