-- ==== Sys2Proof/Machine/Dispatch.lean ====
section
/-! DEFINITION. The one dispatch of the machine: one arm per command, each one call of that command's meaning. -/
namespace Sys2Proof.Machine

def exec (i : Instr) (s : State) : Host.Outcome State Fault Refusal :=
  match i with
  | .powerOn => Sys2Proof.Machine.execPowerOn s
  | .arrivalDelivery a => Sys2Proof.Machine.execArrivalDelivery a s
  | .segment => Sys2Proof.Machine.execSegment s
  | .check => Sys2Proof.Machine.execCheck s
  | .trailer => Sys2Proof.Machine.execTrailer s
  | .unknownKind => Sys2Proof.Machine.execUnknownKind s
  | .dispositionAccept => Sys2Proof.Machine.execDispositionAccept s
  | .commandWrite c => Sys2Proof.Machine.execCommandWrite c s
  | .responseRead => Sys2Proof.Machine.execResponseRead s
  | .portStatusRead => Sys2Proof.Machine.execPortStatusRead s
  | .openStream => Sys2Proof.Machine.execOpenStream s
  | .closeStream => Sys2Proof.Machine.execCloseStream s
  | .abortStream => Sys2Proof.Machine.execAbortStream s
  | .abortGroup => Sys2Proof.Machine.execAbortGroup s
  | .queryStream => Sys2Proof.Machine.execQueryStream s
  | .configurePool => Sys2Proof.Machine.execConfigurePool s
  | .supplyCheck => Sys2Proof.Machine.execSupplyCheck s
  | .supplyObjectCheck => Sys2Proof.Machine.execSupplyObjectCheck s
  | .setStreamTimers => Sys2Proof.Machine.execSetStreamTimers s
  | .setGroupTimers => Sys2Proof.Machine.execSetGroupTimers s
  | .setTimerDefaults => Sys2Proof.Machine.execSetTimerDefaults s
  | .setQueue => Sys2Proof.Machine.execSetQueue s
  | .releaseHold => Sys2Proof.Machine.execReleaseHold s
  | .drainStatus => Sys2Proof.Machine.execDrainStatus s
  | .setStoreLimit => Sys2Proof.Machine.execSetStoreLimit s
  | .ackAttention => Sys2Proof.Machine.execAckAttention s
  | .endAttention => Sys2Proof.Machine.execEndAttention s
  | .setClass => Sys2Proof.Machine.execSetClass s
  | .setThreshold => Sys2Proof.Machine.execSetThreshold s
  | .fetchNotices => Sys2Proof.Machine.execFetchNotices s
  | .readStreamCounters => Sys2Proof.Machine.execReadStreamCounters s
  | .snapshot => Sys2Proof.Machine.execSnapshot s
  | .readSnapshot => Sys2Proof.Machine.execReadSnapshot s
  | .queryEngine => Sys2Proof.Machine.execQueryEngine s
  | .resetEngine => Sys2Proof.Machine.execResetEngine s
  | .unknownCommand => Sys2Proof.Machine.execUnknownCommand s
  | .readReady q count => Sys2Proof.Machine.execReadReady q count s
  | .chainRead count => Sys2Proof.Machine.execChainRead count s
  | .readData h offset length => Sys2Proof.Machine.execReadData h offset length s
  | .release h outcome => Sys2Proof.Machine.execRelease h outcome s
  | .drainStatusRequest => Sys2Proof.Machine.execDrainStatusRequest s
  | .unknownRequest kind => Sys2Proof.Machine.execUnknownRequest kind s
  | .drainAnswerAccept => Sys2Proof.Machine.execDrainAnswerAccept s
  | .timerAdvance ctx => Sys2Proof.Machine.execTimerAdvance ctx s
  | .gapExpiry ctx => Sys2Proof.Machine.execGapExpiry ctx s
  | .abandonExpiry ctx => Sys2Proof.Machine.execAbandonExpiry ctx s
  | .snapshotCompletion => Sys2Proof.Machine.execSnapshotCompletion s

end Sys2Proof.Machine
end

