-- ==== Sys2Proof/Safety.lean ====
section
/-! DEFINITION. The terms in which claims about the part are stated: the taking of a command, the invariants the manual
states of its tables, queues, windows, timers, counters and check values, the walk of a chained read, and the covering of
object offsets. -/
namespace Sys2Proof.Machine

/-! ## Commands taken and answered (R188, R189, R196) -/

/-- The command `c` at the head of the command queue can be taken as a command of kind `k`: its code is that of `k`, it has
the argument words that `k` defines, and the response queue has a free entry. -/
abbrev Taken (k : CommandKind) (s : State) (c : CommandRecord) : Prop :=
  s.commands.head? = some c ∧ commandKind c.code = some k ∧ argWords k ≤ c.args.length ∧
    s.responses.length < Config.responseCapacity

/-- State `t` with the head of its command queue removed and its response placed. -/
def answer (t : State) (c : CommandRecord) (status : Status) (results : List Word) : State :=
  { t with
    commands := t.commands.tail
    responses := t.responses ++ [{ tag := c.tag, status := status, results := results }] }

/-- The row of the opcode table that takes a command of a kind from the command queue. -/
def rowOf : CommandKind → Instr
  | .openStream => .openStream
  | .closeStream => .closeStream
  | .abortStream => .abortStream
  | .abortGroup => .abortGroup
  | .queryStream => .queryStream
  | .supplyCheck => .supplyCheck
  | .supplyObjectCheck => .supplyObjectCheck
  | .configurePool => .configurePool
  | .setStreamTimers => .setStreamTimers
  | .setGroupTimers => .setGroupTimers
  | .setTimerDefaults => .setTimerDefaults
  | .setQueue => .setQueue
  | .releaseHold => .releaseHold
  | .drainStatus => .drainStatus
  | .setStoreLimit => .setStoreLimit
  | .ackAttention => .ackAttention
  | .endAttention => .endAttention
  | .setClass => .setClass
  | .setThreshold => .setThreshold
  | .fetchNotices => .fetchNotices
  | .readStreamCounters => .readStreamCounters
  | .snapshot => .snapshot
  | .readSnapshot => .readSnapshot
  | .queryEngine => .queryEngine
  | .resetEngine => .resetEngine

/-! ## Arrivals answered (R34 to R37) -/

/-- The arrival `a` stands at the head of the input queue, with `rest` behind it, and no disposition is held (R28, R30). -/
abbrev AtHead (s : State) (a : Arrival) (rest : List Arrival) : Prop :=
  s.inputQueue = a :: rest ∧ s.disposition = none

/-- The counters of link `l` after one more arrival (R37). -/
def arrived (s : State) (l : Fin 4) : LinkCounters :=
  { s.links[l] with arrivals := s.links[l].arrivals.add Config.max48 1 }

/-- The counters of link `l` after one more arrival, refused (R37). -/
def arrivedRefused (s : State) (l : Fin 4) : LinkCounters :=
  { arrived s l with refused := s.links[l].refused.add Config.max32 1 }

/-- The refusal codes that section 2.3.1 marks PROTOCOL. -/
def protocolCodes : List DispCode := [.misaligned, .badLength, .beyondEnd, .lengthConflict, .checkConflict, .badCheckValue]

/-- Context `x` after an arrival refused with `code` (R35, R36). -/
def refusedContext (x : Context) (code : DispCode) : Context :=
  { x with
    lastRefusal := some code
    counters := { x.counters with refused := x.counters.refused.add Config.max32 1 }
    notices :=
      if code ∈ protocolCodes ∧ (x.state = .opened ∨ x.state = .ending ∨ x.state = .done) then
        { x.notices with protocol := some code }
      else x.notices }

/-- The state after the arrival at the head of the input queue, for mapped context `i`, is refused with `code` (R35 to
R37): nothing but the link's and the stream's refusal records changes, and its disposition is held. -/
def turnedAway (s : State) (rest : List Arrival) (link : Fin 4) (tag : Word) (i : Nat) (x : Context) (code : DispCode) :
    State :=
  { s with
    inputQueue := rest
    links := s.links.set link (arrivedRefused s link)
    contexts := tabSet s.contexts i (refusedContext x code)
    disposition := some { code := code, tag := tag, newBytes := 0, hole := some (firstHole s i x) } }

/-- The state after the CHECK or TRAILER at the head of the input queue, for mapped context `i`, is answered `code` and
changes no held data (R35, R37). -/
def answeredOnly (s : State) (rest : List Arrival) (link : Fin 4) (tag : Word) (i : Nat) (x : Context) (code : DispCode) :
    State :=
  { s with
    inputQueue := rest
    links := s.links.set link (arrived s link)
    disposition := some { code := code, tag := tag, newBytes := 0, hole := some (firstHole s i x) } }

/-- The state after the arrival at the head of the input queue names no mapped stream (R37, R38). -/
def answeredUnknown (s : State) (rest : List Arrival) (link : Fin 4) (tag : Word) : State :=
  { s with
    inputQueue := rest
    links :=
      s.links.set link
        { arrivedRefused s link with unknownStream := s.links[link].unknownStream.add Config.max32 1 }
    disposition := some { code := .unknownStream, tag := tag, newBytes := 0, hole := none } }

/-! ## Records written by a segment (R45, R66, R77, R87) -/

/-- The record of a target before its piece is written: the one bound to its slot, or the new record of its extent (R64,
R66). -/
def recordBefore (s : State) (i : Nat) (g : Target) : Option Extent :=
  if g.fresh = true then
    some
      { stream := i, index := g.piece.index, state := .filling, ranges := [], acc := { s := 0, t := 0 }, expected := none,
        retries := 0, storeAttempts := 0, checked := false }
  else tabGet s.extents g.slot

/-- Record `r` of a target after its piece is written: the piece is inserted in its ranges (R77), and the bytes of each
sub-piece are accumulated at the sub-piece's word offset (R87). -/
def recordWritten (e : Nat) (a : SegmentArrival) (g : Target) (r : Extent) : Extent :=
  { r with
    ranges := insertRange r.ranges g.piece.start g.piece.stop
    acc :=
      g.runs.foldl
        (fun p q =>
          accumulate p (q.1 / 4) ((a.payload.drop (g.piece.index * e + q.1 - a.offset.toNat)).take (q.2 - q.1)))
        r.acc }

/-! ## Withdrawal (R13, R14) -/

/-- The records of stream `i` that a withdrawal frees: those not CLAIMED, in ascending slot number (R14). -/
def withdrawn (s : State) (i : Nat) : List (Nat × Extent) := (recordsOf s i).filter (fun y => y.2.state != .claimed)

/-- Context `d` is context `x` of stream `i` after an abort (R13, R14): the cause is ABORTED, the timer OFF, the held count
that of the CLAIMED records, the positions of the freed unsealed records ABSENT, and nothing else has changed. -/
def AbortedFrom (s : State) (i : Nat) (x d : Context) : Prop :=
  d =
    { x with
      state := if withdrawn s i = recordsOf s i then .failed else .withdrawing
      cause := some .aborted
      phase := .off
      held := (recordsOf s i).length - (withdrawn s i).length
      window := d.window } ∧
  ∀ k, winGet d k =
    if (withdrawn s i).any (fun y => y.2.state.unsealed && y.2.index == k) then .absent else winGet x k

/-- State `t` differs from `s` in the held work of stream `i` only: in the contexts, records, free-slot list, generations,
ready queues, holds and claims, the contexts and the records of every other stream, with their generations, being as they
were. -/
abbrev OnlyStream (s t : State) (i : Nat) : Prop :=
  t =
    { s with
      contexts := t.contexts
      extents := t.extents
      freeSlots := t.freeSlots
      gens := t.gens
      ready := t.ready
      hold := t.hold
      claims := t.claims } ∧
  (∀ j, j ≠ i → ctxOf t j = ctxOf s j) ∧
  ∀ n r, tabGet s.extents n = some r → r.stream ≠ i → tabGet t.extents n = some r ∧ genOf t n = genOf s n

/-- `h` is a current claim (R146): its generation is that of its slot, the claim table holds it, and its slot is bound to
the CLAIMED record `r` of the stream with context `x`. -/
abbrev CurrentClaim (s : State) (h : Handle) (r : Extent) (x : Context) : Prop :=
  genOf s h.slot = h.gen ∧ h.slot < slotCount s.extentSize ∧ h ∈ s.claims ∧ tabGet s.extents h.slot = some r ∧
    r.state = .claimed ∧ ctxOf s r.stream = some x

/-! ## The walk of a chained read (R162, R163) -/

/-- The walk of a CHAIN_READ as R162 and R163 give it, without a bound on its positions: from state `s`, with `remaining` of
the count left and `idle` consecutive positions walked without hand-out, it ends in state `t` with the records `l`. -/
inductive ChainWalks : State → Nat → Nat → State → List ReadRecord → Prop where
  | full (s : State) (remaining idle : Nat) : 64 ≤ s.claims.length → ChainWalks s remaining idle s []
  | stop (s : State) (remaining idle : Nat) : s.claims.length < 64 →
      (remaining - visitCount s remaining = 0 ∨ (visitCount s remaining = 0 ∧ idle = 3)) →
      ChainWalks s remaining idle (walkPosition s remaining).1 (walkPosition s remaining).2
  | go (s t : State) (remaining idle : Nat) (l : List ReadRecord) : s.claims.length < 64 →
      remaining - visitCount s remaining ≠ 0 → ¬ (visitCount s remaining = 0 ∧ idle = 3) →
      ChainWalks (walkPosition s remaining).1 (remaining - visitCount s remaining)
        (if visitCount s remaining = 0 then idle + 1 else 0) t l →
      ChainWalks s remaining idle t ((walkPosition s remaining).2 ++ l)

/-! ## Tables, pool and held counts (R2, R4, R52, R57, R65) -/

/-- The stream table and the extent table are in canonical form, context indexes are below 1024, and no two contexts carry
one tag (R1, R2). -/
abbrev TablesCanonical (s : State) : Prop :=
  tabWf s.contexts = true ∧ tabWf s.extents = true ∧ (∀ y ∈ s.contexts, y.1 < Config.contextCount) ∧
    (s.contexts.map (fun y => y.2.tag)).Nodup

/-- The free slots and the bound slots together are the slot numbers 0 to the slot count minus 1, each once (R57). -/
abbrev PoolAccounted (s : State) : Prop :=
  (s.freeSlots ++ s.extents.map (fun x => x.1)).Perm (List.range (slotCount s.extentSize))

/-- Every record belongs to a stream that is not FREE (R65), and a stream's held count is the number of its records
(R4). -/
abbrev HeldCounted (s : State) : Prop :=
  (∀ x ∈ s.extents, (ctxOf s x.2.stream).isSome = true) ∧ ∀ y ∈ s.contexts, y.2.held = (recordsOf s y.1).length

/-- The pool and the tables agree. -/
abbrev PoolTrue (s : State) : Prop := TablesCanonical s ∧ PoolAccounted s ∧ HeldCounted s

/-! ## Ready queues and the claim table (R134, R138) -/

/-- Whether `h` is the current handle of a record in state `st`. -/
def namesRecord (s : State) (st : ExtentState) (h : Handle) : Bool :=
  match tabGet s.extents h.slot with
  | none => false
  | some r => r.state == st && h == handleOf s h.slot

/-- The ready queue of the stream of a record, `none` when the stream is FREE. -/
def queueOf (s : State) (r : Extent) : Option (Fin 4) := (ctxOf s r.stream).map (fun c => c.queue)

/-- Every READY extent stands exactly once in exactly one ready queue, that of its stream, and every entry of a ready queue
is a READY extent (R134). -/
abbrev QueuesExact (s : State) : Prop :=
  (∀ q : Fin 4, s.ready[q].Nodup) ∧
  (∀ q : Fin 4, ∀ h ∈ s.ready[q],
    namesRecord s .ready h = true ∧ ∀ r ∈ tabGet s.extents h.slot, queueOf s r = some q) ∧
  (∀ x ∈ s.extents, x.2.state = .ready → ∀ q ∈ queueOf s x.2, handleOf s x.1 ∈ s.ready[q])

/-- The claim table holds at most 64 handles, each once, and an extent is CLAIMED exactly when the table holds its handle
(R138). -/
abbrev ClaimsExact (s : State) : Prop :=
  s.claims.Nodup ∧ s.claims.length ≤ Config.claimCapacity ∧
  (∀ h ∈ s.claims, namesRecord s .claimed h = true) ∧
  (∀ x ∈ s.extents, x.2.state = .claimed → handleOf s x.1 ∈ s.claims)

/-! ## Extent windows (R20, R65) -/

/-- A LIVE position has an unsealed record and an unsealed record a LIVE position; a sealed record lies below the retired
edge or in a SEALED position; position 0 is not SEALED; a stream has at most one record for each extent index. -/
abbrev WindowsTrue (s : State) : Prop :=
  (∀ x ∈ s.extents, ∀ c ∈ ctxOf s x.2.stream,
    if x.2.state.unsealed = true then winGet c x.2.index = .live
    else x.2.index < c.edge ∨ winGet c x.2.index = .sealed) ∧
  (∀ y ∈ s.contexts, ∀ p : Fin 64, y.2.window[p] = .live →
    ∃ x ∈ s.extents, x.2.stream = y.1 ∧ x.2.index = y.2.edge + p.val ∧ x.2.state.unsealed = true) ∧
  (∀ y ∈ s.contexts, y.2.window[0] ≠ .sealed) ∧
  (s.extents.map (fun x => (x.2.stream, x.2.index))).Nodup

/-! ## The states of a stream (section 1.2) -/

/-- What the table of section 1.2 says of a context in each state: L, the failure cause, the timer and the extent records
it may hold. -/
def StateTrue (s : State) (i : Nat) (c : Context) : Prop :=
  match c.state with
  | .opened => c.length = none ∧ c.cause = none
  | .ending => c.length.isSome = true ∧ c.cause = none
  | .done =>
    c.length.isSome = true ∧ c.cause = none ∧ c.phase = .off ∧
      ∀ x ∈ recordsOf s i, x.2.state = .ready ∨ x.2.state = .claimed
  | .failed =>
    c.cause.isSome = true ∧ c.phase = .off ∧ ∀ x ∈ recordsOf s i, x.2.state = .ready ∨ x.2.state = .claimed
  | .withdrawing =>
    c.cause = some .aborted ∧ c.phase = .off ∧ recordsOf s i ≠ [] ∧ ∀ x ∈ recordsOf s i, x.2.state = .claimed

/-- With L known, L is at most 2^44 and the retired edge, every SEALED position and every record lie in the first N
extents; a DONE stream's edge is at or above N (R9, R24). -/
def LengthTrue (s : State) (i : Nat) (c : Context) : Prop :=
  ∀ l ∈ c.length,
    l ≤ Config.maxObject ∧
    c.edge ≤ extentCount (extentBytes s.extentSize) l ∧
    (∀ p : Fin 64, c.window[p] = .sealed → c.edge + p.val < extentCount (extentBytes s.extentSize) l) ∧
    (∀ x ∈ recordsOf s i, x.2.index < extentCount (extentBytes s.extentSize) l) ∧
    (c.state = .done → extentCount (extentBytes s.extentSize) l ≤ c.edge)

/-- Every context is as its state and its L require. -/
abbrev StreamsTrue (s : State) : Prop := ∀ y ∈ s.contexts, StateTrue s y.1 y.2 ∧ LengthTrue s y.1 y.2

/-! ## Fill ranges and accumulators (R74, R89) -/

/-- R74 for a record of a stream with context `c`: the ranges ascend, disjoint and not adjacent, lie within the extent's
length, number at most 8, start at multiples of 4 and end at multiples of 4 or at the extent's length. -/
abbrev RangesOf (s : State) (c : Context) (r : Extent) : Prop :=
  rangesFrom 0 r.ranges = true ∧ r.ranges.length ≤ Config.maxRanges ∧
  ∀ g ∈ r.ranges,
    g.2 ≤ extentLength (extentBytes s.extentSize) c.length r.index ∧ g.1 % 4 = 0 ∧
      (g.2 % 4 = 0 ∨ g.2 = extentLength (extentBytes s.extentSize) c.length r.index)

/-- R74 for every record; a record that has sealed or waits for its value has exactly the one range [0, length) (section
3.4). -/
abbrev RangesTrue (s : State) : Prop :=
  ∀ x ∈ s.extents, ∀ c ∈ ctxOf s x.2.stream,
    RangesOf s c x.2 ∧ (x.2.state ≠ .filling → complete s c x.2 = true)

/-- The bytes of the extent of a record as its slot holds them, every byte outside its fill ranges taken as zero (R89). -/
def heldBytes (s : State) (slot : Nat) (r : Extent) : List Byte :=
  (List.range (extentBytes s.extentSize)).map
    (fun p => if covers r.ranges p then readByte s.mem (slot * extentBytes s.extentSize + p) else 0)

/-- R89: the accumulators of every record are the PCV of the bytes it holds. -/
abbrev AccumulatorsTrue (s : State) : Prop := ∀ x ∈ s.extents, x.2.acc = pcvOf (heldBytes s x.1 x.2)

/-- A pair with both components below M (R84, R95). -/
abbrev Reduced (p : Pcv) : Prop := p.s < Config.modulus ∧ p.t < Config.modulus

/-- Every accumulator and every expected value lies in 0 to M − 1 (R88, R95). -/
abbrev PcvsReduced (s : State) : Prop :=
  (∀ x ∈ s.extents, Reduced x.2.acc ∧ ∀ v ∈ x.2.expected, Reduced v) ∧
  (∀ y ∈ s.contexts, Reduced y.2.acc ∧ ∀ v ∈ y.2.expected, Reduced v)

/-! ## Timers, counters, attention, settings -/

/-- The timer of a context (R120, R122, R127): while a phase is counted its count is below that phase's compare, and the
phase is OFF outside OPEN and ENDING. -/
abbrev TimerTrue (c : Context) : Prop :=
  c.compareA ≤ 65535 ∧ c.compareB ≤ 65535 ∧ c.count ≤ 65535 ∧
  (c.phase = .gap → c.count < c.compareA) ∧ (c.phase = .abandon → c.count < c.compareB) ∧
  (c.state.running = false → c.phase = .off)

/-- The timers of every context, and the timer defaults (R132). -/
abbrev TimersTrue (s : State) : Prop :=
  s.defaultA ≤ 65535 ∧ s.defaultB ≤ 65535 ∧ ∀ y ∈ s.contexts, TimerTrue y.2

/-- A counter with maximum `max` (R182): it does not exceed it, and its saturated flag is set exactly when it holds it. -/
abbrev CounterTrue (max : Nat) (k : Counter) : Prop := k.value ≤ max ∧ (k.saturated = true ↔ k.value = max)

/-- The counters of a stream, with the maxima of R180. -/
abbrev StreamCountersTrue (k : StreamCounters) : Prop :=
  CounterTrue Config.max48 k.accepted ∧ CounterTrue Config.max48 k.duplicate ∧ CounterTrue Config.max32 k.refused ∧
    CounterTrue Config.max16 k.retries ∧ CounterTrue Config.max16 k.storeFailures

/-- The counters of a link, with the maxima of R181. -/
abbrev LinkCountersTrue (k : LinkCounters) : Prop :=
  CounterTrue Config.max48 k.arrivals ∧ CounterTrue Config.max48 k.accepted ∧ CounterTrue Config.max48 k.duplicate ∧
    CounterTrue Config.max32 k.refused ∧ CounterTrue Config.max32 k.unknownStream

/-- Every counter of every stream and link (R180 to R182). -/
abbrev CountersTrue (s : State) : Prop :=
  (∀ y ∈ s.contexts, StreamCountersTrue y.2.counters) ∧ ∀ l : Fin 4, LinkCountersTrue s.links[l]

/-- The in-service classes have pairwise distinct priorities (R172). -/
abbrev ServicesDistinct (s : State) : Prop :=
  ∀ c d : Fin 8, s.inService[c] = true → s.inService[d] = true → s.priority[c] = s.priority[d] → c = d

/-- The queues of the ports hold no more entries than they have (R28, R187, R188). -/
abbrev QueuesBounded (s : State) : Prop :=
  s.inputQueue.length ≤ Config.inputCapacity ∧ s.commands.length ≤ Config.commandCapacity ∧
    s.responses.length ≤ Config.responseCapacity

/-- The settings lie in the ranges the manual gives them: low mark (R54), queue parameters (R136), store limit (R152),
priorities and threshold (R170), groups, retry limits, retry counts and store attempts (R1, R64, R111, R152). -/
abbrev SettingsInRange (s : State) : Prop :=
  s.lowMark ≤ slotCount s.extentSize ∧
  (∀ q : Fin 4, s.params[q].weight ≤ 127 ∧ 1 ≤ s.params[q].watermark ∧ s.params[q].watermark ≤ 4096) ∧
  (1 ≤ s.storeLimit ∧ s.storeLimit ≤ 7) ∧ (∀ c : Fin 8, s.priority[c] ≤ 7) ∧ s.threshold ≤ 7 ∧
  (∀ y ∈ s.contexts, y.2.group ≤ 15 ∧ y.2.retryLimit ≤ 7) ∧ (∀ x ∈ s.extents, x.2.retries ≤ 7 ∧ x.2.storeAttempts ≤ 6)

/-! ## Covered offsets (R18) -/

/-- Whether object offset `x` of stream `i` is covered (R18): its extent lies below the retired edge, or is SEALED, or is
LIVE with `x` inside a fill range of its record. -/
def offsetCovered (s : State) (i : Nat) (c : Context) (x : Nat) : Bool :=
  let e := extentBytes s.extentSize
  decide (x / e < c.edge) || winGet c (x / e) == .sealed
    || (winGet c (x / e) == .live && (unsealedRecord s i (x / e)).any (fun r => covers r.2.ranges (x % e)))

end Sys2Proof.Machine
end

