-- ==== Sys2Proof/Certificates/Slice0/Obligations.lean ====
section
/-! DEFINITION. The statements about the model, for the provers. A statement of a command's result is an equation for the
whole next state, so it is the command's frame as well: what the equation does not name is unchanged. -/
open Sys2Proof Sys2Proof.Machine

/-! ## The machine -/

/-- Each step runs the command at the front of the queue with the queue's rest, and an empty queue idles (log 1: the
model's choice, in place of a clock). -/
def Obligations.StepRunsFrontCommand : Prop :=
  (∀ (c : Instr) (s : State) (rest : List Instr), s.pending = c :: rest → step s = exec c { s with pending := rest }) ∧
  ∀ s : State, s.pending = [] → step s = .next s

/-- Every row of the table answers a next state, and leaves `pending`, the model's own queue (log 1), as it is: from a state
whose slots are accounted for (R57) no row ends in a fault or a refusal, the model's one fault being that of log 14. A row
whose source is absent or whose handshake does not complete answers the state as it is (logs 2 and 3: the model's
choice). -/
def Obligations.EveryCommandCompletes : Prop :=
  ∀ (c : Instr) (s : State), PoolAccounted s → ∃ t, exec c s = .next t ∧ t.pending = s.pending

/-- POWER_ON gives every item the power-on value that the manual states for it, and leaves the bytes of the slots as they
were (R3, R28, R30, R51, R56, R62, R132, R133, R136, R157, R158, R170, R181, R184, R187, R189). -/
def Obligations.PowerOnValues : Prop :=
  ∀ s : State, ∃ t, exec .powerOn s = .next t ∧
    (∀ i, ctxOf t i = none) ∧
    extentBytes t.extentSize = 1048576 ∧ slotCount t.extentSize = 2048 ∧ t.lowMark = 64 ∧
    t.freeSlots = List.range 2048 ∧ (∀ n, genOf t n = 0) ∧ (∀ n, tabGet t.extents n = none) ∧
    t.inputQueue = [] ∧ stopAsserted t = false ∧ t.disposition = none ∧
    t.commands = [] ∧ t.overrun = false ∧ t.responses = [] ∧
    (∀ q : Fin 4, t.ready[q] = [] ∧ t.hold[q] = false ∧
      t.params[q] = { weight := 4, member := true, watermark := 256, mode := .terminated }) ∧
    t.claims = [] ∧ t.storeLimit = 3 ∧ t.cursor = { round := 0, queue := 0 } ∧ t.drainAnswer = none ∧
    t.defaultA = 2000 ∧ t.defaultB = 30000 ∧
    (∀ c : Fin 8, t.priority[c] = c.val ∧ t.masked[c] = true ∧ t.inService[c] = false) ∧ t.threshold = 7 ∧
    attentionLine t = false ∧ (∀ l : Fin 4, t.links[l] = .zero) ∧
    t.copy = none ∧ t.area = .zero ∧ t.unread = false ∧ t.mem = s.mem

/-! ## The segment port -/

/-- ARRIVAL_DELIVERY places the arrival at the tail of the input queue while the stop is withdrawn; the stop is asserted
while the queue holds 32 arrivals, and the handshake does not complete then (R29; that the state is then unchanged and the
sender sends again is log 3). DISPOSITION_ACCEPT takes the held disposition away (R30); the record accepted is kept in
`segmentOut`, the model's own (log 9). With no disposition held DISPOSITION_ACCEPT leaves the state as it is (log 2: the
model's choice). While a disposition is held, or the input queue is empty, no arrival is taken (R28, R30; that the row then
leaves the state as it is, is log 2). The 16 bytes of a disposition record and its codes are those of section 12.1. -/
def Obligations.SegmentPortHandshakes : Prop :=
  ((∀ (a : Arrival) (s : State), s.inputQueue.length < 32 →
    stopAsserted s = false ∧
      exec (.arrivalDelivery a) s = .next { s with inputQueue := s.inputQueue ++ [a] }) ∧
  (∀ (a : Arrival) (s : State), 32 ≤ s.inputQueue.length →
    stopAsserted s = true ∧ exec (.arrivalDelivery a) s = .next s) ∧
  (∀ (s : State) (d : Disposition), s.disposition = some d →
    exec .dispositionAccept s = .next { s with disposition := none, segmentOut := dispositionBytes d }) ∧
  ∀ s : State, s.disposition = none → exec .dispositionAccept s = .next s) ∧
  (∀ s : State, (s.disposition ≠ none ∨ s.inputQueue = []) →
    exec .segment s = .next s ∧ exec .check s = .next s ∧ exec .trailer s = .next s ∧ exec .unknownKind s = .next s) ∧
  (∀ d : Disposition,
    let byte := fun n k : Nat => BitVec.ofNat 8 (n / 256 ^ k)
    let form := match d.hole with | some (.offset _) => 0 | some .unknown => 1 | none => 2
    let hole := match d.hole with | some (.offset x) => x | some .unknown => 0 | none => 0
    dispositionBytes d =
      [byte (dispCode d.code) 0, form, byte d.newBytes 0, byte d.newBytes 1, byte d.tag.toNat 0, byte d.tag.toNat 1,
       byte d.tag.toNat 2, byte d.tag.toNat 3, byte hole 0, byte hole 1, byte hole 2, byte hole 3, byte hole 4, byte hole 5,
       0, 0]) ∧
  ([.accepted, .partialNew, .duplicate, .late, .unknownStream, .streamFailed, .misaligned, .badLength, .outOfWindow,
    .beyondEnd, .lengthConflict, .checkConflict, .badCheckValue, .noSlot, .rangeLimit, .unknownKind].map dispCode =
    [0x00, 0x01, 0x02, 0x03, 0x10, 0x11, 0x12, 0x13, 0x14, 0x15, 0x16, 0x17, 0x18, 0x19, 0x1A, 0x1B])

/-- R197: a header whose kind byte is none of the three is read as an arrival of an unknown kind without payload; taken, it
is answered UNKNOWN_KIND with its tag, new-byte count 0 and the first hole absent, its link counts an arrival and a
refused arrival, and nothing else changes. -/
def Obligations.UnknownKindAnswered : Prop :=
  (∀ h : BitVec 256, h.extractLsb' 0 8 ≠ 0x01 → h.extractLsb' 0 8 ≠ 0x02 → h.extractLsb' 0 8 ≠ 0x03 →
    decodeArrival h [] =
      some (.unknown
        { kind := h.extractLsb' 0 8, link := bitsFin4 (h.extractLsb' 8 2), tag := h.extractLsb' 32 32 })) ∧
  ∀ (s : State) (a : UnknownArrival) (rest : List Arrival), AtHead s (.unknown a) rest →
    exec .unknownKind s =
      .next
        { s with
          inputQueue := rest
          links := s.links.set a.link (arrivedRefused s a.link)
          disposition := some { code := .unknownKind, tag := a.tag, newBytes := 0, hole := none } }

/-- The refusals of a SEGMENT in the order of its admission steps (R38 to R40, R42 to R44), each changing only what R35
to R37 name; a SEGMENT that passes them all is admitted, on a stream in DONE (R46) without targets. The pieces are those of
R41: one, or two that meet at the boundary of the extents. The places are those of R42: a duplicate below the retired edge
or at a SEALED position, the unsealed record of its extent at a LIVE one, a new record at an ABSENT one. Step 4 (R40) passes
exactly the segments that end at or below 2^44 and agree with L, and RANGE_LIMIT (R43) is a result of more than 8 ranges. That an
end above 2^44 is BEYOND_END also where L is known and FINAL set, and that step 3 comes before LENGTH_CONFLICT, as R39 and R40
have it against R23 and R27, is log 21 (the model's choice). -/
def Obligations.RefusedSegmentChangesNoData : Prop :=
  (∀ (s : State) (a : SegmentArrival) (rest : List Arrival), AtHead s (.segment a) rest →
    (lookupTag s a.tag = none → exec .segment s = .next (answeredUnknown s rest a.link a.tag)) ∧
    ∀ i x, lookupTag s a.tag = some (i, x) →
      let refused := fun code => exec .segment s = .next (turnedAway s rest a.link a.tag i x code)
      let stop := a.offset.toNat + a.payload.length
      (x.state = .failed ∨ x.state = .withdrawing → refused .streamFailed) ∧
      (x.state ≠ .failed → x.state ≠ .withdrawing →
        (a.offset.toNat % 4 ≠ 0 → refused .misaligned) ∧
        (a.offset.toNat % 4 = 0 →
          (a.payload.length = 0 ∨ 16384 < a.payload.length ∨ (a.final = false ∧ a.payload.length % 4 ≠ 0) →
            refused .badLength) ∧
          (0 < a.payload.length → a.payload.length ≤ 16384 → (a.final = true ∨ a.payload.length % 4 = 0) →
            (2 ^ 44 < stop → refused .beyondEnd) ∧
            (stop ≤ 2 ^ 44 →
              (∀ l, x.length = some l → a.final = false → l < stop → refused .beyondEnd) ∧
              (∀ l, x.length = some l → a.final = true → stop ≠ l → refused .lengthConflict) ∧
              (x.length = none → a.final = true → lengthConflict s i x stop = true → refused .lengthConflict) ∧
              (segmentLength s i x a = none → x.state = .done → segmentAdmission s i x a = .ok []) ∧
              (segmentLength s i x a = none → x.state ≠ .done →
                let ps := placedPieces s i x a
                let created := (ps.filter (fun p => p.2 == .absent)).length
                ((∃ p ∈ ps, x.edge + 64 ≤ p.1.index) → refused .outOfWindow) ∧
                ((∀ p ∈ ps, p.1.index < x.edge + 64) →
                  ((∃ p ∈ ps, overRangeLimit p.1 p.2 = true) → refused .rangeLimit) ∧
                  ((∀ p ∈ ps, overRangeLimit p.1 p.2 = false) →
                    (s.freeSlots.length < created → refused .noSlot) ∧
                    (created ≤ s.freeSlots.length → ∃ ts, segmentAdmission s i x a = .ok ts))))))))) ∧
  (∀ (s : State) (i : Nat) (x : Context) (a : SegmentArrival), 0 < a.payload.length → a.payload.length ≤ 16384 →
    let e := extentBytes s.extentSize
    let off := a.offset.toNat
    let stop := off + a.payload.length
    let k := off / e
    let placed := fun p => (p, placeOf s i x p)
    ((stop - 1) / e = k → placedPieces s i x a = [placed { index := k, start := off - k * e, stop := stop - k * e }]) ∧
    ((stop - 1) / e ≠ k →
      (stop - 1) / e = k + 1 ∧
        placedPieces s i x a =
          [placed { index := k, start := off - k * e, stop := e },
           placed { index := k + 1, start := 0, stop := stop - (k + 1) * e }]) ∧
    (segmentLength s i x a = none ↔
      stop ≤ 2 ^ 44 ∧ (∀ l, x.length = some l → if a.final = true then stop = l else stop ≤ l) ∧
        (x.length = none → a.final = true → lengthConflict s i x stop = false))) ∧
  (∀ (s : State) (i : Nat) (x : Context) (p : Piece), PoolTrue s → WindowsTrue s → ctxOf s i = some x →
    (p.index < x.edge ∨ winGet x p.index = .sealed → placeOf s i x p = .duplicate) ∧
    (winGet x p.index = .live →
      ∃ slot r, tabGet s.extents slot = some r ∧ r.stream = i ∧ r.index = p.index ∧ r.state.unsealed = true ∧
        placeOf s i x p = .live slot r.ranges) ∧
    (x.edge ≤ p.index → winGet x p.index = .absent → placeOf s i x p = .absent)) ∧
  ∀ p : Piece, overRangeLimit p .duplicate = false ∧ overRangeLimit p .absent = false ∧
    ∀ slot rs, rangesFrom 0 rs = true → p.start < p.stop →
      (overRangeLimit p (.live slot rs) = true ↔ 8 < (insertRange rs p.start p.stop).length)

/-- An admitted SEGMENT (R37, R42, R44, R45, R58, R75, R78). Its targets are the pieces that bring new bytes: one in an
ABSENT position is new whole and takes the next slot of the free-slot list, one in a LIVE position goes to the record of its
extent, trimmed; where the records satisfy R74, the sub-pieces are exactly the offsets of the segment that the stream does
not cover, each once. Its code follows from its new bytes, the disposition carries their number and the first hole afterwards, each sub-piece is written at its own positions of the slot of its extent, every other byte of
buffer memory is as it was, and nothing outside the held work of its stream changes. The link and the stream count its
bytes. A FINAL segment leaves L at its end; without FINAL, L stays. A stream that has not failed holds a record more for
each new one, and each written record that is not complete afterwards has the piece inserted in its ranges, the sub-pieces
accumulated at their own word offsets, and its position LIVE. New bytes restart the timer of a stream that still runs. A
DUPLICATE that teaches no L changes the counters and nothing else. That one which takes its stream to DONE by the L it
teaches is answered DUPLICATE, as R44 and R45 have it against the words of R116, is log 19 (the model's choice). -/
def Obligations.AdmittedSegmentStoresPayload : Prop :=
  ∀ (s : State) (a : SegmentArrival) (rest : List Arrival) (i : Nat) (x : Context) (ts : List Target),
    AtHead s (.segment a) rest → PoolTrue s → WindowsTrue s → StreamsTrue s →
    lookupTag s a.tag = some (i, x) →
    x.state ≠ .failed → x.state ≠ .withdrawing → segmentAdmission s i x a = .ok ts →
    let e := extentBytes s.extentSize
    let n : Nat := (ts.map (fun g => (g.runs.map (fun r => r.2 - r.1)).sum)).sum
    ((∀ g ∈ ts,
        g.piece ∈ (placedPieces s i x a).map (fun p => p.1) ∧
          if g.fresh = true then winGet x g.piece.index = .absent ∧ g.runs = [(g.piece.start, g.piece.stop)]
          else
            winGet x g.piece.index = .live ∧
              ∃ r, tabGet s.extents g.slot = some r ∧ r.stream = i ∧ r.index = g.piece.index ∧ r.state.unsealed = true ∧
                g.runs = trimPiece r.ranges g.piece.start g.piece.stop) ∧
      (let created := ts.filter (fun g => g.fresh)
       created.map (fun g => g.slot) = s.freeSlots.take created.length) ∧
      (RangesTrue s →
        (∀ p, a.offset.toNat ≤ p → p < a.offset.toNat + a.payload.length →
          (offsetCovered s i x p = false ↔ ∃ g ∈ ts, g.piece.index = p / e ∧ covers g.runs (p % e) = true)) ∧
        n =
          ((List.range a.payload.length).filter (fun p => !offsetCovered s i x (a.offset.toNat + p))).length)) ∧
    ∃ t d, exec .segment s = .next t ∧ ctxOf t i = some d ∧
      (t.disposition =
          some
            { code := if n = 0 then .duplicate else if n = a.payload.length then .accepted else .partialNew
              tag := a.tag
              newBytes := n
              hole := firstHoleOf t i } ∧
        (∀ g ∈ ts, ∀ r ∈ g.runs, ∀ p, r.1 ≤ p → p < r.2 →
          readByte t.mem (g.slot * e + p) = a.payload.getD (g.piece.index * e + p - a.offset.toNat) 0) ∧
        (∀ adr, (∀ g ∈ ts, ∀ r ∈ g.runs, adr < g.slot * e + r.1 ∨ g.slot * e + r.2 ≤ adr) →
          readByte t.mem adr = readByte s.mem adr) ∧
        t.links[a.link] =
          { arrived s a.link with
            accepted := s.links[a.link].accepted.add Config.max48 n
            duplicate := s.links[a.link].duplicate.add Config.max48 (a.payload.length - n) } ∧
        (∀ j, j ≠ i → ctxOf t j = ctxOf s j) ∧
        (∀ m r, tabGet s.extents m = some r → r.stream ≠ i → tabGet t.extents m = some r ∧ genOf t m = genOf s m) ∧
        t =
          { s with
            inputQueue := rest
            disposition := t.disposition
            links := s.links.set a.link t.links[a.link]
            mem := t.mem
            contexts := t.contexts
            extents := t.extents
            freeSlots := t.freeSlots
            gens := t.gens
            ready := t.ready
            hold := t.hold
            claims := t.claims }) ∧
      (d.counters =
          { x.counters with
            accepted := x.counters.accepted.add Config.max48 n
            duplicate := x.counters.duplicate.add Config.max48 (a.payload.length - n)
            retries := d.counters.retries } ∧
        (d.length = if a.final = true then some (a.offset.toNat + a.payload.length) else x.length) ∧
        (a.final = true → d.state ≠ .opened) ∧
        (x.state = .opened → a.final = false → d.state = .opened ∨ d.state = .failed) ∧
        (d.state ≠ .failed → d.held = x.held + (ts.filter (fun g => g.fresh)).length) ∧
        (0 < n → d.state = .opened ∨ d.state = .ending → d.count = 0 ∧ d.phase = startPhase x.compareA x.compareB)) ∧
      (∀ g ∈ ts, ∀ r, recordBefore s i g = some r → d.state ≠ .failed →
        (recordWritten e a g r).ranges ≠ [(0, extentLength e d.length g.piece.index)] →
        tabGet t.extents g.slot = some (recordWritten e a g r) ∧ winGet d g.piece.index = .live) ∧
      (n = 0 → (a.final = false ∨ x.length ≠ none) →
        d.counters.retries = x.counters.retries ∧
        t =
          { s with
            inputQueue := rest
            disposition := t.disposition
            links := s.links.set a.link t.links[a.link]
            contexts := tabSet s.contexts i { x with counters := d.counters } })

/-- A SEGMENT of one piece in an ABSENT position of an OPEN stream, without FINAL (R45, R58, R66): the piece's extent takes
the slot at the head of the free-slot list with the piece as its one fill range, accumulated from zero (R87) and written to
the slot (R78); the position becomes LIVE, the held count rises by one, the timer restarts and the counters take the
payload length. Any admitted SEGMENT, by the steps of R45: from a state `w` in which the new records exist and every record
written to has its piece inserted and its sub-pieces accumulated, the stream learns L from a FINAL segment if it held none,
then each record written to is examined for completeness in ascending index, then new bytes restart the timer, then the
counters of the stream and the link take the bytes. Memory is that of `s` with each sub-piece written to its slot. The
code follows from the new bytes alone (log 19: the model's choice where R116 says otherwise). -/
def Obligations.NewPieceBindsHeadSlot : Prop :=
  (∀ (s : State) (a : SegmentArrival) (rest : List Arrival) (i : Nat) (x : Context) (k slot : Nat) (free : List Nat),
      AtHead s (.segment a) rest → lookupTag s a.tag = some (i, x) → x.state = .opened → x.length = none →
      let e := extentBytes s.extentSize
      let start := a.offset.toNat - k * e
      a.offset.toNat % 4 = 0 → a.final = false → a.payload.length % 4 = 0 → 0 < a.payload.length →
      a.payload.length ≤ 16384 → k * e ≤ a.offset.toNat → a.offset.toNat + a.payload.length ≤ (k + 1) * e →
      a.offset.toNat + a.payload.length ≤ 2 ^ 44 →
      x.edge ≤ k → k < x.edge + 64 → winGet x k = .absent → s.freeSlots = slot :: free → slot < slotCount s.extentSize →
      ∃ t, exec .segment s = .next t ∧
        t =
          { s with
            inputQueue := rest
            links :=
              s.links.set a.link
                { arrived s a.link with accepted := s.links[a.link].accepted.add Config.max48 a.payload.length }
            freeSlots := free
            extents :=
              tabSet s.extents slot
                { stream := i
                  index := k
                  state := .filling
                  ranges := [(start, start + a.payload.length)]
                  acc := accumulate { s := 0, t := 0 } (start / 4) a.payload
                  expected := none
                  retries := 0
                  storeAttempts := 0
                  checked := false }
            contexts :=
              tabSet s.contexts i
                { x with
                  window := winSet x k .live
                  held := x.held + 1
                  count := 0
                  phase := startPhase x.compareA x.compareB
                  counters := { x.counters with accepted := x.counters.accepted.add Config.max48 a.payload.length } }
            mem := writeBytes s.mem (slot * e + start) a.payload
            disposition :=
              some { code := .accepted, tag := a.tag, newBytes := a.payload.length, hole := firstHoleOf t i } }) ∧
  ∀ (s : State) (a : SegmentArrival) (rest : List Arrival) (i : Nat) (x : Context) (ts : List Target),
    AtHead s (.segment a) rest → PoolTrue s → WindowsTrue s → lookupTag s a.tag = some (i, x) →
    x.state ≠ .failed → x.state ≠ .withdrawing → segmentAdmission s i x a = .ok ts →
    let e := extentBytes s.extentSize
    let n : Nat := (ts.map (fun g => (g.runs.map (fun r => r.2 - r.1)).sum)).sum
    let created := ts.filter (fun g => g.fresh)
    ∃ (w : State) (y : Context) (v : State) (z d : Context) (t : State),
      ((∀ m, tabGet w.extents m =
          match ts.find? (fun g => g.slot == m) with
          | some g => (recordBefore s i g).map (recordWritten e a g)
          | none => tabGet s.extents m) ∧
        tabWf w.extents = true ∧
        y = { x with held := x.held + created.length, window := y.window } ∧
        (∀ k, winGet y k = if created.any (fun g => g.piece.index == k) then .live else winGet x k) ∧
        w =
          { s with
            mem :=
              ts.foldl (fun m g => writeRuns m e a.offset.toNat a.payload g.slot g.piece.index g.runs) s.mem
            freeSlots := s.freeSlots.drop created.length
            extents := w.extents
            contexts := tabSet s.contexts i y }) ∧
      v =
        ts.foldl (fun u g => routeComplete u g.slot)
          (if a.final = true ∧ x.length = none then learnLength w i (a.offset.toNat + a.payload.length) else w) ∧
      ctxOf v i = some z ∧
      (d =
        if 0 < n ∧ (z.state = .opened ∨ z.state = .ending) then
          { z with count := 0, phase := startPhase z.compareA z.compareB }
        else z) ∧
      exec .segment s = .next t ∧
      t =
        { v with
          inputQueue := rest
          links :=
            s.links.set a.link
              { arrived s a.link with
                accepted := s.links[a.link].accepted.add Config.max48 n
                duplicate := s.links[a.link].duplicate.add Config.max48 (a.payload.length - n) }
          contexts :=
            tabSet v.contexts i
              { d with
                counters :=
                  { d.counters with
                    accepted := d.counters.accepted.add Config.max48 n
                    duplicate := d.counters.duplicate.add Config.max48 (a.payload.length - n) } }
          disposition :=
            some
              { code := if n = 0 then .duplicate else if n = a.payload.length then .accepted else .partialNew
                tag := a.tag
                newBytes := n
                hole := firstHoleOf t i } }

/-- The answers to a CHECK (R38, R47): each condition with its code, the refusals changing only what R35 to R37 name and
LATE and DUPLICATE nothing beyond the link's arrivals. -/
def Obligations.CheckAnswers : Prop :=
  ∀ (s : State) (a : CheckArrival) (rest : List Arrival), AtHead s (.check a) rest →
    (lookupTag s a.tag = none → exec .check s = .next (answeredUnknown s rest a.link a.tag)) ∧
    ∀ i x, lookupTag s a.tag = some (i, x) →
      let refused := fun code => exec .check s = .next (turnedAway s rest a.link a.tag i x code)
      let answered := fun code => exec .check s = .next (answeredOnly s rest a.link a.tag i x code)
      let e := extentBytes s.extentSize
      let k := a.index.toNat
      (x.state = .failed ∨ x.state = .withdrawing → refused .streamFailed) ∧
      (x.state = .done → answered .late) ∧
      (x.state = .opened ∨ x.state = .ending →
        (Config.modulus ≤ a.s.toNat ∨ Config.modulus ≤ a.t.toNat → refused .badCheckValue) ∧
        (a.s.toNat < Config.modulus → a.t.toNat < Config.modulus →
          (2 ^ 44 / e ≤ k ∨ (∃ l, x.length = some l ∧ extentCount e l ≤ k) → refused .beyondEnd) ∧
          (k < 2 ^ 44 / e → (∀ l, x.length = some l → k < extentCount e l) →
            (x.edge + 64 ≤ k → refused .outOfWindow) ∧
            (k < x.edge ∨ winGet x k = .sealed → answered .late) ∧
            (∀ slot r v, x.edge ≤ k → winGet x k = .live → unsealedRecord s i k = some (slot, r) → r.expected = some v →
              (v = pcvOfWords a.s a.t → answered .duplicate) ∧ (v ≠ pcvOfWords a.s a.t → refused .checkConflict)) ∧
            (x.edge ≤ k → k < x.edge + 64 → winGet x k = .absent → s.freeSlots = [] → refused .noSlot))))

/-- An admitted CHECK (R48): in an ABSENT position it creates a record with the value and no range; at a FILLING record
without a value it stores the value; at one in AWAIT_CHECK the compare follows at once (R71, R105), which seals the extent
(R106), with the DONE evaluation that follows a seal, resets it or, with the retries spent, fails the stream (R112), the whole
next state being that of automatic failure handling. The timer of a stream that still runs restarts, and the answer is
ACCEPTED. -/
def Obligations.CheckStoresAndCompares : Prop :=
  ∀ (s : State) (a : CheckArrival) (rest : List Arrival) (i : Nat) (x : Context), AtHead s (.check a) rest → PoolTrue s →
    WindowsTrue s → lookupTag s a.tag = some (i, x) → (x.state = .opened ∨ x.state = .ending) →
    a.s.toNat < Config.modulus → a.t.toNat < Config.modulus →
    let e := extentBytes s.extentSize
    let k := a.index.toNat
    let v := pcvOfWords a.s a.t
    let accepted := fun t =>
      t.disposition = some { code := .accepted, tag := a.tag, newBytes := 0, hole := firstHoleOf t i } ∧
        t.inputQueue = rest ∧ t.links = s.links.set a.link (arrived s a.link)
    let before := fun t : State =>
      { t with inputQueue := s.inputQueue, links := s.links, disposition := s.disposition }
    k < 2 ^ 44 / e → (∀ l, x.length = some l → k < extentCount e l) → x.edge ≤ k → k < x.edge + 64 →
    (∀ slot free, winGet x k = .absent → s.freeSlots = slot :: free →
      ∃ t, exec .check s = .next t ∧ accepted t ∧
        before t =
          { s with
            freeSlots := free
            extents :=
              tabSet s.extents slot
                { stream := i, index := k, state := .filling, ranges := [], acc := { s := 0, t := 0 },
                  expected := some v, retries := 0, storeAttempts := 0, checked := false }
            contexts :=
              tabSet s.contexts i
                { x with
                  window := winSet x k .live
                  held := x.held + 1
                  count := 0
                  phase := startPhase x.compareA x.compareB } }) ∧
    ∀ slot r, winGet x k = .live → unsealedRecord s i k = some (slot, r) → r.expected = none →
      (r.state = .filling →
        ∃ t, exec .check s = .next t ∧ accepted t ∧
          before t =
            { s with
              extents := tabSet s.extents slot { r with expected := some v }
              contexts := tabSet s.contexts i { x with count := 0, phase := startPhase x.compareA x.compareB } }) ∧
      (r.state = .awaitCheck → r.acc = v →
        let w := advanceEdge { x with window := winSet x k .sealed }
        ∃ t, exec .check s = .next t ∧ accepted t ∧
          before t =
            evalDone
              { s with
                extents := tabSet s.extents slot { r with state := .ready, checked := true, expected := some v }
                ready := s.ready.set x.queue (s.ready[x.queue] ++ [handleOf s slot])
                contexts :=
                  tabSet s.contexts i
                    { x with
                      edge := w.edge
                      window := w.window
                      acc := foldPcv x.acc e k r.acc
                      count := 0
                      phase := startPhase x.compareA x.compareB } }
              i) ∧
      (r.state = .awaitCheck → r.acc ≠ v → r.retries < x.retryLimit →
        ∃ t, exec .check s = .next t ∧ accepted t ∧
          before t =
            { s with
              extents :=
                tabSet s.extents slot
                  { r with
                    state := .filling
                    ranges := []
                    acc := { s := 0, t := 0 }
                    expected := some v
                    retries := r.retries + 1 }
              contexts :=
                tabSet s.contexts i
                  { x with
                    notices := { x.notices with retry := some k }
                    counters := { x.counters with retries := x.counters.retries.add Config.max16 1 }
                    count := 0
                    phase := startPhase x.compareA x.compareB } }) ∧
      (r.state = .awaitCheck → r.acc ≠ v → x.retryLimit ≤ r.retries →
        ∃ t d, exec .check s = .next t ∧ accepted t ∧ ctxOf t i = some d ∧ d.state = .failed ∧
          d.cause = some .extentCheck ∧ d.phase = .off ∧ d.notices = { x.notices with failed := some .extentCheck } ∧
          tabGet t.extents slot = none ∧ OnlyStream s (before t) i ∧ t.ready = s.ready ∧ t.claims = s.claims ∧
          before t = failStream { s with extents := tabSet s.extents slot { r with expected := some v } } i .extentCheck)

/-- The answers to a TRAILER that changes no held data (R38, R49): each condition with its code. A proposed L conflicts
exactly when one of the four tests of R24 holds: a fill range that ends above it, a retired edge times E above it, a record
at or above its N, or a SEALED position whose extent ends above it. That step 3 comes before LENGTH_CONFLICT, as R49
has it against R23, is log 21 (the model's choice). -/
def Obligations.TrailerAnswers : Prop :=
  (∀ (s : State) (a : TrailerArrival) (rest : List Arrival), AtHead s (.trailer a) rest →
      (lookupTag s a.tag = none → exec .trailer s = .next (answeredUnknown s rest a.link a.tag)) ∧
      ∀ i x, lookupTag s a.tag = some (i, x) →
        let refused := fun code => exec .trailer s = .next (turnedAway s rest a.link a.tag i x code)
        let answered := fun code => exec .trailer s = .next (answeredOnly s rest a.link a.tag i x code)
        let l := a.length.toNat
        let badValue := ∃ u v, a.pcv = some (u, v) ∧ (Config.modulus ≤ u.toNat ∨ Config.modulus ≤ v.toNat)
        let badLength := (∃ m, x.length = some m ∧ m ≠ l) ∨ (x.length = none ∧ lengthConflict s i x l = true)
        let differs := ∃ u v w, a.pcv = some (u, v) ∧ x.expected = some w ∧ w ≠ pcvOfWords u v
        (x.state = .failed ∨ x.state = .withdrawing → refused .streamFailed) ∧
        (x.state ≠ .failed → x.state ≠ .withdrawing →
          (2 ^ 44 < l → refused .badLength) ∧
          (l ≤ 2 ^ 44 →
            (badValue → refused .badCheckValue) ∧
            (¬ badValue →
              (badLength → refused .lengthConflict) ∧
              (¬ badLength →
                (differs → refused .checkConflict) ∧
                (¬ differs →
                  (x.state = .done → a.pcv ≠ none → x.expected = none → answered .late) ∧
                  (x.length = some l → (a.pcv = none ∨ x.expected ≠ none) → answered .duplicate))))))) ∧
  ∀ (s : State) (i : Nat) (x : Context) (l : Nat),
    let e := extentBytes s.extentSize
    lengthConflict s i x l = true ↔
      (∃ y ∈ recordsOf s i, ∃ g ∈ y.2.ranges, l < y.2.index * e + g.2) ∨ l < x.edge * e ∨
        (∃ y ∈ recordsOf s i, extentCount e l ≤ y.2.index) ∨ ∃ k, winGet x k = .sealed ∧ l < (k + 1) * e

/-- An admitted TRAILER (R26, R27, R50), whose answer is ACCEPTED. On an OPEN stream whose first N extents have not all sealed
and whose last extent has no unsealed record, it stores the value where the stream holds none, which restarts the timer, and
the stream learns L and enters ENDING; with a value already held, or with none, the timer is left alone. On any OPEN stream,
the value is stored where the stream holds none, the stream then learns L, and a stored value restarts the timer of a stream
that still runs. On a stream in ENDING that holds no value, the value is stored and the timer restarts while the retired edge
is below N; at N the object compare takes the stream to DONE or to FAILED. The learning of L (R26): ENDING with that L, then
the examination of the unsealed record of the last extent where its length becomes shorter than E, then the DONE evaluation;
a stream not in OPEN is left as it is. -/
def Obligations.TrailerLearnsLength : Prop :=
  ((∀ (s : State) (a : TrailerArrival) (rest : List Arrival) (i : Nat) (x : Context), AtHead s (.trailer a) rest →
      lookupTag s a.tag = some (i, x) → x.state = .opened → x.length = none → a.length.toNat ≤ 2 ^ 44 →
      (∀ u v, a.pcv = some (u, v) → u.toNat < Config.modulus ∧ v.toNat < Config.modulus ∧
        ∀ w, x.expected = some w → w = pcvOfWords u v) →
      lengthConflict s i x a.length.toNat = false →
      x.edge < extentCount (extentBytes s.extentSize) a.length.toNat →
      findUnsealed s i (extentCount (extentBytes s.extentSize) a.length.toNat - 1) = none →
      let stored := a.pcv.isSome && x.expected.isNone
      ∃ t, exec .trailer s = .next t ∧
        t =
          { s with
            inputQueue := rest
            links := s.links.set a.link (arrived s a.link)
            contexts :=
              tabSet s.contexts i
                { x with
                  state := .ending
                  length := some a.length.toNat
                  expected := if stored = true then a.pcv.map (fun p => pcvOfWords p.1 p.2) else x.expected
                  count := if stored = true then 0 else x.count
                  phase := if stored = true then startPhase x.compareA x.compareB else x.phase }
            disposition := some { code := .accepted, tag := a.tag, newBytes := 0, hole := firstHoleOf t i } }) ∧
  ∀ (s : State) (a : TrailerArrival) (rest : List Arrival) (i : Nat) (x : Context), AtHead s (.trailer a) rest →
    PoolTrue s → lookupTag s a.tag = some (i, x) → x.state = .opened → x.length = none → a.length.toNat ≤ 2 ^ 44 →
    (∀ u v, a.pcv = some (u, v) → u.toNat < Config.modulus ∧ v.toNat < Config.modulus ∧
      ∀ w, x.expected = some w → w = pcvOfWords u v) →
    lengthConflict s i x a.length.toNat = false →
    let stored := a.pcv.isSome && x.expected.isNone
    let given := if stored = true then a.pcv.map (fun p => pcvOfWords p.1 p.2) else x.expected
    ∃ v z t, v = learnLength (setCtx s i { x with expected := given }) i a.length.toNat ∧ ctxOf v i = some z ∧
      exec .trailer s = .next t ∧
      t =
        { v with
          inputQueue := rest
          links := s.links.set a.link (arrived s a.link)
          contexts :=
            tabSet v.contexts i
              (if stored = true ∧ (z.state = .opened ∨ z.state = .ending) then
                { z with count := 0, phase := startPhase z.compareA z.compareB }
              else z)
          disposition := some { code := .accepted, tag := a.tag, newBytes := 0, hole := firstHoleOf t i } }) ∧
  (∀ (s : State) (a : TrailerArrival) (rest : List Arrival) (i : Nat) (x : Context) (u v : Word) (l : Nat),
    AtHead s (.trailer a) rest → PoolTrue s → lookupTag s a.tag = some (i, x) → x.state = .ending →
    x.length = some l → a.length.toNat = l → l ≤ 2 ^ 44 → a.pcv = some (u, v) → u.toNat < Config.modulus →
    v.toNat < Config.modulus → x.expected = none →
    let n := extentCount (extentBytes s.extentSize) l
    let given := pcvOfWords u v
    let ends := fun (t : State) (d : Context) =>
      exec .trailer s = .next t ∧
        t =
          { s with
            inputQueue := rest
            links := s.links.set a.link (arrived s a.link)
            contexts := tabSet s.contexts i d
            disposition := some { code := .accepted, tag := a.tag, newBytes := 0, hole := firstHoleOf t i } }
    (x.edge < n →
      ∃ t, ends t { x with expected := some given, count := 0, phase := startPhase x.compareA x.compareB }) ∧
    (n ≤ x.edge → x.acc = given →
      ∃ t, ends t
        { x with
          expected := some given
          state := .done
          phase := .off
          notices := { x.notices with done := some n } }) ∧
    (n ≤ x.edge → x.acc ≠ given →
      ∃ t d, exec .trailer s = .next t ∧
        t.disposition = some { code := .accepted, tag := a.tag, newBytes := 0, hole := firstHoleOf t i } ∧
        t.inputQueue = rest ∧ t.links = s.links.set a.link (arrived s a.link) ∧
        ctxOf t i = some d ∧ d.state = .failed ∧ d.cause = some .objectCheck ∧ d.phase = .off ∧ d.expected = some given ∧
        d.notices = { x.notices with failed := some .objectCheck } ∧
        OnlyStream s { t with inputQueue := s.inputQueue, links := s.links, disposition := s.disposition } i ∧
        t.ready = s.ready ∧ t.claims = s.claims ∧
        { t with inputQueue := s.inputQueue, links := s.links, disposition := s.disposition } =
          failStream (setCtx s i { x with expected := some given }) i .objectCheck)) ∧
  ∀ (s : State) (i : Nat) (x : Context) (l : Nat), ctxOf s i = some x →
    let e := extentBytes s.extentSize
    let n := extentCount e l
    let w := setCtx s i { x with length := some l, state := .ending }
    let last := fun y : Nat × Extent => y.2.index = n - 1 ∧ (y.2.state = .filling ∨ y.2.state = .awaitCheck)
    (x.state ≠ .opened → learnLength s i l = s) ∧
    (x.state = .opened →
      (∀ slot, 0 < n → l - (n - 1) * e < e → findUnsealed s i (n - 1) = some slot →
        learnLength s i l = evalDone (routeComplete w slot) i) ∧
      ((n = 0 ∨ e ≤ l - (n - 1) * e ∨ findUnsealed s i (n - 1) = none) → learnLength s i l = evalDone w i)) ∧
    (∀ slot, findUnsealed s i (n - 1) = some slot → ∃ r, (slot, r) ∈ recordsOf s i ∧ last (slot, r)) ∧
    (findUnsealed s i (n - 1) = none ↔ ∀ y ∈ recordsOf s i, ¬ last y)

/-! ## The control port -/

/-- COMMAND_WRITE (R187): a write that finds fewer than 16 records places its record at the tail; one that finds 16 discards
it and sets the overrun flag. At power-on the queue is empty and the flag clear. -/
def Obligations.CommandWriteQueuesOrOverruns : Prop :=
  (∀ (c : CommandRecord) (s : State), s.commands.length < 16 →
    exec (.commandWrite c) s = .next { s with commands := s.commands ++ [c] }) ∧
  (∀ (c : CommandRecord) (s : State), 16 ≤ s.commands.length →
    exec (.commandWrite c) s = .next { s with overrun := true }) ∧
  State.reset.commands = [] ∧ State.reset.overrun = false

/-- RESPONSE_READ removes the head response and returns its words, or returns the empty indication (R189);
PORT_STATUS_READ returns the two words of the port status as they stand and clears the overrun flag (R190). The words
returned stand in `controlOut`, the model's own (log 9), in the layout of section 12.3. No command is taken from an empty
command queue or while the response queue holds 16 responses (R188; that the row then leaves the state as it is, is log 2);
one with fewer argument words than its command defines is refused with BAD_ARGUMENT and changes nothing (R196), whether or
not its tag is mapped (log 20: the model's choice where R2 says otherwise). The status codes are those of section 12.3. -/
def Obligations.HostReadsAndWaitingCommands : Prop :=
  ((∀ s : State, s.responses = [] → exec .responseRead s = .next { s with controlOut := [0xFFFF, 0] }) ∧
  (∀ (s : State) (r : Response) (rest : List Response), s.responses = r :: rest →
    exec .responseRead s =
      .next
        { s with
          responses := rest
          controlOut :=
            [BitVec.ofNat 32 (statusCode r.status + 65536 * (r.results.length % 256)), BitVec.ofNat 32 r.tag.toNat]
              ++ r.results }) ∧
  ∀ s : State,
    exec .portStatusRead s =
      .next
        { s with
          overrun := false
          controlOut :=
            [BitVec.ofNat 32 (16 - s.commands.length + 256 * s.responses.length),
             BitVec.ofNat 32
               ((if attentionLine s = true then 1 else 0) + (if s.overrun = true then 2 else 0))] }) ∧
  ((∀ (k : CommandKind) (s : State), (s.commands = [] ∨ 16 ≤ s.responses.length) →
    exec (rowOf k) s = .next s ∧ exec .unknownCommand s = .next s) ∧
  ∀ (k : CommandKind) (s : State) (c : CommandRecord), s.commands.head? = some c → commandKind c.code = some k →
    s.responses.length < 16 → c.args.length < argWords k → exec (rowOf k) s = .next (answer s c .badArgument [])) ∧
  [.ok, .busy, .unknownStream, .tagInUse, .tableFull, .badState, .notInService, .checkConflict, .noSlot, .late,
    .noneEligible, .badArgument, .unknownCommand].map statusCode = List.range 13

/-- R198: a command whose code is none of those of section 12.3 is taken in its turn and answered UNKNOWN_COMMAND with its
tag and no result words; it changes no state, and it waits while the response queue is full. -/
def Obligations.UnknownCommandAnswered : Prop :=
  ∀ (s : State) (c : CommandRecord), s.commands.head? = some c →
    c.code.toNat ∉
      [0x0001, 0x0002, 0x0003, 0x0004, 0x0005, 0x0006, 0x0007, 0x0008, 0x000C, 0x000D, 0x000E, 0x0010, 0x0011, 0x0012,
       0x0013, 0x0018, 0x0019, 0x001A, 0x001B, 0x001C, 0x0020, 0x0021, 0x0022, 0x0030, 0x0031] →
    (s.responses.length < 16 → exec .unknownCommand s = .next (answer s c .unknownCommand [])) ∧
    (16 ≤ s.responses.length → exec .unknownCommand s = .next s)

/-! ## Streams -/

/-- The tag map (R2): under the tables' canonical form, a tag is mapped to a context exactly when that context is not FREE
and carries the tag, and to at most one. CLOSE_STREAM (R17): refused with UNKNOWN_STREAM on an unmapped tag and with BUSY on
a stream that is not in DONE or FAILED with held count 0; otherwise the context becomes FREE, with its notice flags, and the
tag leaves the map. -/
def Obligations.TagMapAndCloseStream : Prop :=
  (∀ (s : State) (tag : Word), TablesCanonical s →
    (∀ i x, lookupTag s tag = some (i, x) ↔ ctxOf s i = some x ∧ x.tag = tag) ∧
    (lookupTag s tag = none ↔ ∀ i x, ctxOf s i = some x → x.tag ≠ tag)) ∧
  (∀ (s : State) (c : CommandRecord), Taken .closeStream s c →
    let tag := argWord c.args 0
    (lookupTag s tag = none → exec .closeStream s = .next (answer s c .unknownStream [])) ∧
    ∀ i x, lookupTag s tag = some (i, x) →
      (¬ ((x.state = .done ∨ x.state = .failed) ∧ x.held = 0) →
        exec .closeStream s = .next (answer s c .busy [])) ∧
      ((x.state = .done ∨ x.state = .failed) → x.held = 0 →
        ∃ t, exec .closeStream s = .next (answer t c .ok []) ∧ t = { s with contexts := t.contexts } ∧
          (∀ j, ctxOf t j = if j = i then none else ctxOf s j) ∧ (TablesCanonical s → lookupTag t tag = none)))

/-- OPEN_STREAM (R6 to R8): its refusals in order, and otherwise the lowest FREE context set up field by field, with the
DONE evaluation that L = 0 brings. The argument block, seven words as section 12.3 lays them out: a part whose presence bit
is clear is absent. That L takes its two words whole is log 11 (the model's choice). -/
def Obligations.OpenStreamSetsUpContext : Prop :=
  (∀ (s : State) (c : CommandRecord), Taken .openStream s c → PoolTrue s →
      let a := openArgs c.args
      let bad :=
        15 < a.group ∨ 3 < a.queue ∨ (∃ l, a.length = some l ∧ 2 ^ 44 < l) ∨
          ∃ u v, a.expected = some (u, v) ∧ (Config.modulus ≤ u.toNat ∨ Config.modulus ≤ v.toNat)
      let mapped := ∃ y ∈ s.contexts, y.2.tag = a.tag
      (bad → exec .openStream s = .next (answer s c .badArgument [])) ∧
      (¬ bad → mapped → exec .openStream s = .next (answer s c .tagInUse [])) ∧
      (¬ bad → ¬ mapped → (∀ i < 1024, (ctxOf s i).isSome = true) →
        exec .openStream s = .next (answer s c .tableFull [])) ∧
      (¬ bad → ¬ mapped → ∀ i < 1024, ctxOf s i = none → (∀ j < i, (ctxOf s j).isSome = true) →
        let ab := a.timers.getD (s.defaultA, s.defaultB)
        let base : Context :=
          { tag := a.tag
            state := .opened
            cause := none
            group := a.group
            queue := Fin.ofNat 4 a.queue
            extentCheck := a.extentCheck
            objectCheck := a.objectCheck
            length := none
            expected := a.expected.map (fun p => pcvOfWords p.1 p.2)
            acc := { s := 0, t := 0 }
            edge := 0
            window := Vector.replicate 64 .absent
            held := 0
            retryLimit := min 7 (a.retryLimit.getD 3)
            compareA := ab.1
            compareB := ab.2
            count := 0
            phase := if 0 < ab.1 then .gap else if 0 < ab.2 then .abandon else .off
            notices := { failed := none, retry := none, stall := none, protocol := none, done := none }
            lastRefusal := none
            counters := .zero }
        let done : Context :=
          { base with state := .done, length := some 0, phase := .off, notices := { base.notices with done := some 0 } }
        let failed : Context :=
          { base with
            state := .failed
            cause := some .objectCheck
            length := some 0
            phase := .off
            notices := { base.notices with failed := some .objectCheck } }
        let d : Context :=
          match a.length with
          | none => base
          | some l =>
            if 0 < l then { base with state := .ending, length := some l }
            else
              match base.expected with
              | some v => if v = { s := 0, t := 0 } then done else failed
              | none => if a.objectCheck = true then { base with state := .ending, length := some 0 } else done
        exec .openStream s = .next (answer (setCtx s i d) c .ok [word i, word (streamStateCode d.state)]))) ∧
  ∀ (w0 w1 w2 w3 w4 w5 w6 : Word) (more : List Word),
    openArgs (w0 :: w1 :: w2 :: w3 :: w4 :: w5 :: w6 :: more) =
      { tag := w0
        group := (w1.extractLsb' 0 8).toNat
        queue := (w1.extractLsb' 8 8).toNat
        extentCheck := w1.getLsbD 16
        objectCheck := w1.getLsbD 17
        length := if w1.getLsbD 20 = true then some (w3 ++ w2 : BitVec 64).toNat else none
        expected := if w1.getLsbD 21 = true then some (w4, w5) else none
        timers :=
          if w1.getLsbD 22 = true then some ((w6.extractLsb' 0 16).toNat, (w6.extractLsb' 16 16).toNat) else none
        retryLimit := if w1.getLsbD 23 = true then some (w1.extractLsb' 24 8).toNat else none }

/-- ABORT_STREAM with its withdrawal (R13, R14): every record of the stream but the CLAIMED ones is freed in ascending slot
number, the cause becomes ABORTED, the timer OFF, and the state WITHDRAWING while a CLAIMED record remains, otherwise
FAILED. No hold and no notice is set. -/
def Obligations.AbortStreamWithdraws : Prop :=
  ∀ (s : State) (c : CommandRecord), Taken .abortStream s c → PoolTrue s →
    (lookupTag s (argWord c.args 0) = none → exec .abortStream s = .next (answer s c .unknownStream [])) ∧
    ∀ i x, lookupTag s (argWord c.args 0) = some (i, x) →
      (x.state = .withdrawing → exec .abortStream s = .next (answer s c .ok [word 5, word 0])) ∧
      (x.state ≠ .withdrawing →
        ∃ t d, exec .abortStream s =
            .next (answer t c .ok [word (streamStateCode d.state), word (withdrawn s i).length]) ∧
          AbortedFrom s i x d ∧ (∀ j, ctxOf t j = if j = i then some d else ctxOf s j) ∧
          (∀ n, genOf t n = if n ∈ (withdrawn s i).map (fun y => y.1) then genOf s n + 1 else genOf s n) ∧
          (∀ q : Fin 4, t.ready[q] =
            if q = x.queue then
              s.ready[q].filter (fun h =>
                !((withdrawn s i).any (fun y => y.2.state == .ready && h == handleOf s y.1)))
            else s.ready[q]) ∧
          t =
            { s with
              contexts := t.contexts
              extents := s.extents.filter (fun y => !(y.2.stream == i && y.2.state != .claimed))
              freeSlots := s.freeSlots ++ (withdrawn s i).map (fun y => y.1)
              gens := t.gens
              ready := t.ready })

/-- ABORT_GROUP (R16): every stream of the group in OPEN, ENDING, DONE or FAILED is aborted as ABORT_STREAM would, in
ascending context index, and the answer carries their number; the others are passed over. That the group argument takes its
whole word, so that any bit above refuses it, is log 11, and that the slots join the free-slot list stream by stream, as R16
has it against the last words of R60, is log 18 (the model's choices). -/
def Obligations.AbortGroupAbortsMembers : Prop :=
  ∀ (s : State) (c : CommandRecord), Taken .abortGroup s c → PoolTrue s →
    let g := arg32 c.args 0
    let members := (s.contexts.filter (fun y => y.2.group == g && y.2.state != .withdrawing)).map (fun y => y.1)
    (15 < g → exec .abortGroup s = .next (answer s c .badArgument [])) ∧
    (g ≤ 15 →
      ∃ t, exec .abortGroup s = .next (answer t c .ok [word members.length]) ∧
        (∀ j x, ctxOf s j = some x → ∃ d, ctxOf t j = some d ∧ if j ∈ members then AbortedFrom s j x d else d = x) ∧
        (∀ j, ctxOf s j = none → ctxOf t j = none) ∧
        (∀ n, genOf t n =
          if n ∈ members.flatMap (fun i => (withdrawn s i).map (fun y => y.1)) then genOf s n + 1 else genOf s n) ∧
        (∀ q : Fin 4, t.ready[q] =
          s.ready[q].filter (fun h =>
            !(members.any (fun i =>
              (ctxOf s i).any (fun x => x.queue == q) &&
                (withdrawn s i).any (fun y => y.2.state == .ready && h == handleOf s y.1))))) ∧
        t =
          { s with
            contexts := t.contexts
            extents := s.extents.filter (fun y => !(members.contains y.2.stream && y.2.state != .claimed))
            freeSlots := s.freeSlots ++ members.flatMap (fun i => (withdrawn s i).map (fun y => y.1))
            gens := t.gens
            ready := t.ready })

/-- QUERY_STREAM (R19): the answer is a copy of the context with the first hole, in the words of section 12.3, and no state
changes. That the two check-required flags stand in one word is log 10. The forms of the values that may be absent or
unknown, the flag words, the window words and the codes are those of section 12.3. -/
def Obligations.QueryStreamCopiesContext : Prop :=
  (∀ (s : State) (c : CommandRecord), Taken .queryStream s c →
    (lookupTag s (argWord c.args 0) = none → exec .queryStream s = .next (answer s c .unknownStream [])) ∧
    ∀ i x, lookupTag s (argWord c.args 0) = some (i, x) →
      exec .queryStream s =
        .next
          (answer s c .ok
            ([x.tag, word (streamStateCode x.state), word (causeCode x.cause), word x.group, word x.queue.val,
              word ((if x.extentCheck = true then 1 else 0) + (if x.objectCheck = true then 2 else 0))]
              ++ lengthWords x.length ++ pcvWords x.expected ++ [word x.edge] ++ windowWords x.window
              ++ [word x.held, word x.retryLimit, word x.compareA, word x.compareB, word x.count,
                  word (phaseCode x.phase)]
              ++ ([noticeFlags x.notices] ++ detailWords (x.notices.failed.map (fun f => .value (causeCode (some f))))
                ++ detailWords (x.notices.retry.map .value) ++ detailWords (x.notices.stall.map holeDetail)
                ++ detailWords (x.notices.protocol.map (fun r => .value (dispCode r)))
                ++ detailWords (x.notices.done.map .value))
              ++ refusalWords x.lastRefusal ++ holeWords (some (firstHole s i x))))) ∧
  ((∀ l, lengthWords (some l) = [0, word l, word (l / 2 ^ 32)]) ∧ lengthWords none = [2, 0, 0] ∧
    (∀ p, pcvWords (some p) = [0, word p.s, word p.t]) ∧ pcvWords none = [2, 0, 0] ∧
    (∀ x, holeWords (some (.offset x)) = [0, word x, word (x / 2 ^ 32)]) ∧ holeWords (some .unknown) = [1, 0, 0] ∧
    (∀ r, refusalWords (some r) = [0, word (dispCode r)]) ∧ refusalWords none = [2, 0] ∧
    (∀ n, detailWords (some (.value n)) = [0, word n, word (n / 2 ^ 32)]) ∧ detailWords (some .unknown) = [1, 0, 0] ∧
    detailWords none = [2, 0, 0]) ∧
  (∀ n : Notices,
    let flag := fun b : Bool => if b = true then 1 else 0
    noticeFlags n =
      word (flag n.failed.isSome + 2 * flag n.retry.isSome + 4 * flag n.stall.isSome + 8 * flag n.protocol.isSome
        + 16 * flag n.done.isSome)) ∧
  (∀ w : Vector WinPos 64, (windowWords w).length = 4 ∧
    ∀ p : Fin 64, ((windowWords w).getD (p.val / 16) 0).toNat / 4 ^ (p.val % 16) % 4 = winCode w[p]) ∧
  [.opened, .ending, .done, .failed, .withdrawing].map streamStateCode = [1, 2, 3, 4, 5] ∧
  [none, some .extentCheck, some .objectCheck, some .stall, some .store, some .aborted].map causeCode = List.range 6 ∧
  [.off, .gap, .abandon].map phaseCode = List.range 3 ∧ [.absent, .live, .sealed].map winCode = List.range 3

/-! ## The pool -/

/-- CONFIGURE_POOL (R53 to R55): refused with BUSY while a context is not FREE or a claim is held; otherwise E, the slot
count and the low mark follow from the arguments by R54, the free-slot list is rebuilt in ascending order, and no
generation changes. -/
def Obligations.ConfigurePoolSetsSizes : Prop :=
  ∀ (s : State) (c : CommandRecord), Taken .configurePool s c →
    let arg := arg32 c.args 0
    let e := if arg < 65536 then 65536 else min (2 ^ Nat.log2 arg) 4194304
    let n := if e ≤ 524288 then 4096 else 2 ^ 31 / e
    let low := min (arg16 c.args 1) n
    (¬ (s.contexts = [] ∧ s.claims = []) → exec .configurePool s = .next (answer s c .busy [])) ∧
    (s.contexts = [] → s.claims = [] →
      ∃ t, exec .configurePool s = .next (answer t c .ok [word e, word n, word low]) ∧
        extentBytes t.extentSize = e ∧ slotCount t.extentSize = n ∧ freeCount t = n ∧
        (classPending t 4 = true ↔ low = n) ∧
        t = { s with extentSize := t.extentSize, lowMark := low, freeSlots := List.range n })

/-! ## Expected values -/

/-- The refusals of SUPPLY_CHECK in the order of R98, none of which changes any state but the command and response queues,
and the answer to an equal value already held, with the outcome STORED (R99). -/
def Obligations.SupplyCheckRefusals : Prop :=
  ∀ (s : State) (c : CommandRecord), Taken .supplyCheck s c →
    let refused := fun st => exec .supplyCheck s = .next (answer s c st [])
    let k := arg32 c.args 1
    let e := extentBytes s.extentSize
    let v := pcvOfWords (argWord c.args 2) (argWord c.args 3)
    (Config.modulus ≤ v.s ∨ Config.modulus ≤ v.t → refused .badArgument) ∧
    (v.s < Config.modulus → v.t < Config.modulus →
      (lookupTag s (argWord c.args 0) = none → refused .unknownStream) ∧
      ∀ i x, lookupTag s (argWord c.args 0) = some (i, x) →
        (x.state = .failed ∨ x.state = .withdrawing → refused .badState) ∧
        (x.state = .done → refused .late) ∧
        (x.state = .opened ∨ x.state = .ending →
          (2 ^ 44 / e ≤ k ∨ (∃ l, x.length = some l ∧ extentCount e l ≤ k) → refused .badArgument) ∧
          (k < 2 ^ 44 / e → (∀ l, x.length = some l → k < extentCount e l) →
            (x.edge + 64 ≤ k → refused .busy) ∧
            (k < x.edge ∨ winGet x k = .sealed → refused .late) ∧
            (∀ slot r w, x.edge ≤ k → winGet x k = .live → unsealedRecord s i k = some (slot, r) → r.expected = some w →
              (w ≠ v → refused .checkConflict) ∧
              (w = v →
                exec .supplyCheck s = .next (answer s c .ok [word 0, word (streamStateCode x.state)]))) ∧
            (x.edge ≤ k → k < x.edge + 64 → winGet x k = .absent → s.freeSlots = [] → refused .noSlot))))

/-- A SUPPLY_CHECK that passes R98 (R99, R105): it creates a record in an ABSENT position or stores its value at a FILLING
record (STORED); at a record in AWAIT_CHECK the compare follows at once, which seals the extent (SEALED) with the DONE
evaluation that follows a seal, resets it (RETRY) or, with the retries spent, fails the stream (FREED). The timer of a stream
that still runs restarts. -/
def Obligations.SupplyCheckStoresAndCompares : Prop :=
  ∀ (s : State) (c : CommandRecord) (i : Nat) (x : Context), Taken .supplyCheck s c → PoolTrue s → WindowsTrue s →
    lookupTag s (argWord c.args 0) = some (i, x) → (x.state = .opened ∨ x.state = .ending) →
    let k := arg32 c.args 1
    let e := extentBytes s.extentSize
    let v := pcvOfWords (argWord c.args 2) (argWord c.args 3)
    v.s < Config.modulus → v.t < Config.modulus → k < 2 ^ 44 / e →
    (∀ l, x.length = some l → k < extentCount e l) → x.edge ≤ k → k < x.edge + 64 →
    (∀ slot free, winGet x k = .absent → s.freeSlots = slot :: free →
      exec .supplyCheck s =
        .next
          (answer
            { s with
              freeSlots := free
              extents :=
                tabSet s.extents slot
                  { stream := i, index := k, state := .filling, ranges := [], acc := { s := 0, t := 0 },
                    expected := some v, retries := 0, storeAttempts := 0, checked := false }
              contexts :=
                tabSet s.contexts i
                  { x with
                    window := winSet x k .live
                    held := x.held + 1
                    count := 0
                    phase := startPhase x.compareA x.compareB } }
            c .ok [word 0, word (streamStateCode x.state)])) ∧
    ∀ slot r, winGet x k = .live → unsealedRecord s i k = some (slot, r) → r.expected = none →
      (r.state = .filling →
        exec .supplyCheck s =
          .next
            (answer
              { s with
                extents := tabSet s.extents slot { r with expected := some v }
                contexts := tabSet s.contexts i { x with count := 0, phase := startPhase x.compareA x.compareB } }
              c .ok [word 0, word (streamStateCode x.state)])) ∧
      (r.state = .awaitCheck → r.acc = v →
        let w := advanceEdge { x with window := winSet x k .sealed }
        ∃ t d,
          t =
            evalDone
              { s with
                extents := tabSet s.extents slot { r with state := .ready, checked := true, expected := some v }
                ready := s.ready.set x.queue (s.ready[x.queue] ++ [handleOf s slot])
                contexts :=
                  tabSet s.contexts i
                    { x with
                      edge := w.edge
                      window := w.window
                      acc := foldPcv x.acc e k r.acc
                      count := 0
                      phase := startPhase x.compareA x.compareB } }
              i ∧
          ctxOf t i = some d ∧
          exec .supplyCheck s = .next (answer t c .ok [word 1, word (streamStateCode d.state)])) ∧
      (r.state = .awaitCheck → r.acc ≠ v → r.retries < x.retryLimit →
        exec .supplyCheck s =
          .next
            (answer
              { s with
                extents :=
                  tabSet s.extents slot
                    { r with
                      state := .filling
                      ranges := []
                      acc := { s := 0, t := 0 }
                      expected := some v
                      retries := r.retries + 1 }
                contexts :=
                  tabSet s.contexts i
                    { x with
                      notices := { x.notices with retry := some k }
                      counters := { x.counters with retries := x.counters.retries.add Config.max16 1 }
                      count := 0
                      phase := startPhase x.compareA x.compareB } }
              c .ok [word 2, word (streamStateCode x.state)])) ∧
      (r.state = .awaitCheck → r.acc ≠ v → x.retryLimit ≤ r.retries →
        ∃ t d, exec .supplyCheck s = .next (answer t c .ok [word 3, word 4]) ∧
          ctxOf t i = some d ∧ d.state = .failed ∧ d.cause = some .extentCheck ∧ d.phase = .off ∧
          d.notices = { x.notices with failed := some .extentCheck } ∧ tabGet t.extents slot = none ∧ OnlyStream s t i ∧
          t.ready = s.ready ∧ t.claims = s.claims ∧
          t = failStream { s with extents := tabSet s.extents slot { r with expected := some v } } i .extentCheck)

/-- SUPPLY_OBJECT_CHECK (R102): its refusals in order; otherwise the value is stored and the timer restarts, and on a stream
in ENDING whose retired edge has reached N the object compare takes it to DONE or, by automatic failure handling (R114), to
FAILED. -/
def Obligations.SupplyObjectCheckDecides : Prop :=
  ∀ (s : State) (c : CommandRecord), Taken .supplyObjectCheck s c → PoolTrue s →
    let refused := fun st => exec .supplyObjectCheck s = .next (answer s c st [])
    let e := extentBytes s.extentSize
    let v := pcvOfWords (argWord c.args 1) (argWord c.args 2)
    (Config.modulus ≤ v.s ∨ Config.modulus ≤ v.t → refused .badArgument) ∧
    (v.s < Config.modulus → v.t < Config.modulus →
      (lookupTag s (argWord c.args 0) = none → refused .unknownStream) ∧
      ∀ i x, lookupTag s (argWord c.args 0) = some (i, x) →
        (x.state = .failed ∨ x.state = .withdrawing → refused .badState) ∧
        (x.state ≠ .failed → x.state ≠ .withdrawing →
          (∀ w, x.expected = some w →
            (w ≠ v → refused .checkConflict) ∧
            (w = v →
              exec .supplyObjectCheck s = .next (answer s c .ok [word (streamStateCode x.state)]))) ∧
          (x.expected = none → x.state = .done → refused .late) ∧
          (x.expected = none →
            (x.state = .opened ∨ (x.state = .ending ∧ ∃ l, x.length = some l ∧ x.edge < extentCount e l)) →
            exec .supplyObjectCheck s =
              .next
                (answer
                  (setCtx s i
                    { x with expected := some v, count := 0, phase := startPhase x.compareA x.compareB })
                  c .ok [word (streamStateCode x.state)])) ∧
          (∀ l, x.expected = none → x.state = .ending → x.length = some l → extentCount e l ≤ x.edge →
            (x.acc = v →
              exec .supplyObjectCheck s =
                .next
                  (answer
                    (setCtx s i
                      { x with
                        expected := some v
                        state := .done
                        phase := .off
                        notices := { x.notices with done := some (extentCount e l) } })
                    c .ok [word 3])) ∧
            (x.acc ≠ v →
              ∃ t d, exec .supplyObjectCheck s = .next (answer t c .ok [word 4]) ∧
                ctxOf t i = some d ∧ d.state = .failed ∧ d.cause = some .objectCheck ∧ d.phase = .off ∧
                d.expected = some v ∧ d.notices = { x.notices with failed := some .objectCheck } ∧ OnlyStream s t i ∧
                t.ready = s.ready ∧ t.claims = s.claims ∧
                t = failStream (setCtx s i { x with expected := some v }) i .objectCheck))))

/-! ## Timers -/

/-- SET_STREAM_TIMERS and SET_GROUP_TIMERS (R130, R131): the compares of the stream, or of every stream of the group in OPEN
or ENDING, take the arguments and the timers restart at the starting phase of R122; the refusals change nothing. That the
group argument takes its whole word is log 11 (the model's choice). -/
def Obligations.TimerCommandsRestartTimers : Prop :=
  (∀ (s : State) (c : CommandRecord), Taken .setStreamTimers s c →
    let A := arg16 c.args 1
    let B := arg16 c.args 2
    let start : Phase := if 0 < A then .gap else if 0 < B then .abandon else .off
    (lookupTag s (argWord c.args 0) = none → exec .setStreamTimers s = .next (answer s c .unknownStream [])) ∧
    ∀ i x, lookupTag s (argWord c.args 0) = some (i, x) →
      (x.state = .done ∨ x.state = .failed ∨ x.state = .withdrawing →
        exec .setStreamTimers s = .next (answer s c .badState [])) ∧
      (x.state = .opened ∨ x.state = .ending →
        exec .setStreamTimers s =
          .next
            (answer (setCtx s i { x with compareA := A, compareB := B, count := 0, phase := start }) c .ok
              [word (phaseCode start)]))) ∧
  (∀ (s : State) (c : CommandRecord), Taken .setGroupTimers s c → TablesCanonical s →
    let g := arg32 c.args 0
    let A := arg16 c.args 1
    let B := arg16 c.args 2
    let start : Phase := if 0 < A then .gap else if 0 < B then .abandon else .off
    let member := fun y : Nat × Context => y.2.group == g && (y.2.state == .opened || y.2.state == .ending)
    (15 < g → exec .setGroupTimers s = .next (answer s c .badArgument [])) ∧
    (g ≤ 15 →
      exec .setGroupTimers s =
        .next
          (answer
            { s with
              contexts :=
                s.contexts.map (fun y =>
                  if member y = true then
                    (y.1, { y.2 with compareA := A, compareB := B, count := 0, phase := start })
                  else y) }
            c .ok [word (s.contexts.filter member).length])))

/-- TIMER_ADVANCE, GAP_EXPIRY and ABANDON_EXPIRY (R121, R125, R126): an advance raises a running count by one; the advance
that reaches A sets the STALL notice with the first hole and moves the phase on; the advance that reaches B fails the
stream with cause STALL by automatic failure handling, its count keeping the value B. A timer that does not run is not advanced, and an expiry that
the next advance does not bring does not occur (log 4). A count of 0 is no exception where the compare is 1: the tick after
a restart brings the expiry then (log 17: the model's choice). -/
def Obligations.TimerAdvanceAndExpiries : Prop :=
  ∀ (s : State) (j : Fin 1024), PoolTrue s →
    let stays := fun i => exec i s = .next s
    (ctxOf s j.val = none → stays (.timerAdvance j) ∧ stays (.gapExpiry j) ∧ stays (.abandonExpiry j)) ∧
    ∀ x, ctxOf s j.val = some x →
      let running := x.state = .opened ∨ x.state = .ending
      (¬ running ∨ x.phase = .off → stays (.timerAdvance j) ∧ stays (.gapExpiry j) ∧ stays (.abandonExpiry j)) ∧
      (running →
        (x.phase = .gap → x.count + 1 ≠ x.compareA →
          exec (.timerAdvance j) s = .next (setCtx s j.val { x with count := x.count + 1 }) ∧
            stays (.gapExpiry j) ∧ stays (.abandonExpiry j)) ∧
        (x.phase = .abandon → x.count + 1 ≠ x.compareB →
          exec (.timerAdvance j) s = .next (setCtx s j.val { x with count := x.count + 1 }) ∧
            stays (.gapExpiry j) ∧ stays (.abandonExpiry j)) ∧
        (x.phase = .gap → x.count + 1 = x.compareA →
          stays (.abandonExpiry j) ∧
          ∀ i : Instr, (i = .timerAdvance j ∨ i = .gapExpiry j) →
            exec i s =
              .next
                (setCtx s j.val
                  { x with
                    notices := { x.notices with stall := some (firstHole s j.val x) }
                    count := 0
                    phase := if 0 < x.compareB then .abandon else .off })) ∧
        (x.phase = .abandon → x.count + 1 = x.compareB →
          stays (.gapExpiry j) ∧
          ∃ t d, exec (.timerAdvance j) s = .next t ∧ exec (.abandonExpiry j) s = .next t ∧
            ctxOf t j.val = some d ∧ d.state = .failed ∧ d.cause = some .stall ∧ d.phase = .off ∧
            d.count = x.compareB ∧ d.notices = { x.notices with failed := some .stall } ∧
            (∀ y ∈ t.extents, y.2.stream = j.val → y.2.state = .ready ∨ y.2.state = .claimed) ∧
            OnlyStream s t j.val ∧ t.ready = s.ready ∧ t.claims = s.claims ∧
            t = failStream (setCtx s j.val { x with count := x.compareB }) j.val .stall))

/-! ## Settings -/

/-- SET_TIMER_DEFAULTS (R132), SET_STORE_LIMIT (R193), SET_THRESHOLD (R175) and SET_QUEUE (R136) set their items, each
argument clamped as its rule says, and answer OK with the values set; SET_QUEUE refuses a queue number above 3; that the
number takes its whole word is log 11 (the model's choice). -/
def Obligations.SettingCommandsClamp : Prop :=
  (∀ (s : State) (c : CommandRecord), Taken .setTimerDefaults s c →
    exec .setTimerDefaults s =
      .next
        (answer { s with defaultA := arg16 c.args 0, defaultB := arg16 c.args 1 } c .ok
          [word (arg16 c.args 0), word (arg16 c.args 1)])) ∧
  (∀ (s : State) (c : CommandRecord), Taken .setStoreLimit s c →
    let n := if arg8 c.args 0 = 0 then 1 else if 7 < arg8 c.args 0 then 7 else arg8 c.args 0
    exec .setStoreLimit s = .next (answer { s with storeLimit := n } c .ok [word n])) ∧
  (∀ (s : State) (c : CommandRecord), Taken .setThreshold s c →
    let t := if 7 < arg8 c.args 0 then 7 else arg8 c.args 0
    exec .setThreshold s = .next (answer { s with threshold := t } c .ok [word t])) ∧
  ∀ (s : State) (c : CommandRecord), Taken .setQueue s c →
    (3 < arg32 c.args 0 → exec .setQueue s = .next (answer s c .badArgument [])) ∧
    ∀ q : Fin 4, arg32 c.args 0 = q.val →
      let weight := if 127 < arg8 c.args 1 then 127 else arg8 c.args 1
      let member := argBool c.args 2
      let mark := arg16 c.args 3
      let watermark := if mark = 0 then 1 else if 4096 < mark then 4096 else mark
      let mode : ReadMode := if argBool c.args 4 = true then .padded else .terminated
      exec .setQueue s =
        .next
          (answer
            { s with
              params := s.params.set q { weight := weight, member := member, watermark := watermark, mode := mode } }
            c .ok [word weight, word (if member = true then 1 else 0), word watermark,
              word (if argBool c.args 4 = true then 1 else 0)])

/-! ## Attention -/

/-- The pending condition of each class (R169), eligibility and the attention line (R171). -/
def Obligations.AttentionLineFollowsClasses : Prop :=
  ∀ s : State,
    (classPending s 0 = true ↔ ∃ y ∈ s.contexts, y.2.notices.failed ≠ none) ∧
    (classPending s 1 = true ↔ ∃ y ∈ s.contexts, y.2.notices.retry ≠ none) ∧
    (classPending s 2 = true ↔ ∃ y ∈ s.contexts, y.2.notices.stall ≠ none) ∧
    (classPending s 3 = true ↔ ∃ q : Fin 4, s.params[q].watermark ≤ s.ready[q].length) ∧
    (classPending s 4 = true ↔ s.freeSlots.length ≤ s.lowMark) ∧
    (classPending s 5 = true ↔ ∃ y ∈ s.contexts, y.2.notices.protocol ≠ none) ∧
    (classPending s 6 = true ↔ s.unread = true) ∧
    (classPending s 7 = true ↔ ∃ y ∈ s.contexts, y.2.notices.done ≠ none) ∧
    (∀ c : Fin 8, classEligible s c = true ↔
      classPending s c = true ∧ s.masked[c] = false ∧ s.priority[c] ≤ s.threshold ∧
        ∀ d : Fin 8, s.inService[d] = true → s.priority[c] < s.priority[d]) ∧
    (attentionLine s = true ↔ ∃ c : Fin 8, classEligible s c = true)

/-- ACK_ATTENTION (R172): it takes the eligible class of the lowest priority number, among equals the lowest class number,
sets it in service and answers with its number and priority; afterwards neither that class nor any class of a priority at or
above its own is eligible, and the in-service priorities stay pairwise distinct. With no class eligible it answers NONE and
changes nothing. -/
def Obligations.AckTakesMostUrgentClass : Prop :=
  ∀ (s : State) (c : CommandRecord), Taken .ackAttention s c →
    ((∀ d : Fin 8, classEligible s d = false) → exec .ackAttention s = .next (answer s c .noneEligible [])) ∧
    ((∃ d : Fin 8, classEligible s d = true) →
      ∃ d : Fin 8, classEligible s d = true ∧
        (∀ o : Fin 8, classEligible s o = true →
          s.priority[d] < s.priority[o] ∨ (s.priority[d] = s.priority[o] ∧ d ≤ o)) ∧
        ∃ t, t = { s with inService := s.inService.set d true } ∧
          exec .ackAttention s = .next (answer t c .ok [word d.val, word s.priority[d]]) ∧
          (∀ o : Fin 8, s.priority[d] ≤ s.priority[o] → classEligible t o = false) ∧
          (ServicesDistinct s → ServicesDistinct t))

/-- END_ATTENTION (R173), SET_CLASS (R174) and RELEASE_HOLD (R155): END_ATTENTION of class 0 clears every hold, RELEASE_HOLD
the hold of one queue; SET_CLASS clamps the priority to 7; each with its refusals, which change nothing. That yes in
SET_CLASS is masked is log 10, and that the queue number of RELEASE_HOLD takes its whole word is log 11 (the model's
choices). -/
def Obligations.ServiceAndHoldCommands : Prop :=
  (∀ (s : State) (c : CommandRecord), Taken .endAttention s c →
    (7 < arg8 c.args 0 → exec .endAttention s = .next (answer s c .badArgument [])) ∧
    ∀ d : Fin 8, arg8 c.args 0 = d.val →
      (s.inService[d] = false → exec .endAttention s = .next (answer s c .notInService [])) ∧
      (s.inService[d] = true →
        exec .endAttention s =
          .next
            (answer
              { s with
                inService := s.inService.set d false
                hold := if d = 0 then Vector.replicate 4 false else s.hold }
              c .ok []))) ∧
  (∀ (s : State) (c : CommandRecord), Taken .setClass s c →
    (7 < arg8 c.args 0 → exec .setClass s = .next (answer s c .badArgument [])) ∧
    ∀ d : Fin 8, arg8 c.args 0 = d.val →
      let p := if 7 < arg8 c.args 1 then 7 else arg8 c.args 1
      let m := argBool c.args 2
      (s.inService[d] = true → exec .setClass s = .next (answer s c .busy [])) ∧
      (s.inService[d] = false →
        exec .setClass s =
          .next
            (answer { s with priority := s.priority.set d p, masked := s.masked.set d m } c .ok
              [word p, word (if m = true then 1 else 0)]))) ∧
  ∀ (s : State) (c : CommandRecord), Taken .releaseHold s c →
    (3 < arg32 c.args 0 → exec .releaseHold s = .next (answer s c .badArgument [])) ∧
    ∀ q : Fin 4, arg32 c.args 0 = q.val →
      exec .releaseHold s =
        .next (answer { s with hold := s.hold.set q false } c .ok [word s.ready[q].length])

/-- FETCH_NOTICES (R178): the first `max` contexts, in ascending index, whose flag of the class is set give their tag and
detail and lose the flag; the answer says how many there are and whether more remain; flags not returned stay. The flag of
class 0 is FAILED, of 1 RETRY, of 2 STALL, of 5 PROTOCOL and of 7 DONE; clearing one leaves the others with their details. -/
def Obligations.FetchNoticesClearsFlags : Prop :=
  (∀ (s : State) (c : CommandRecord), Taken .fetchNotices s c → TablesCanonical s →
    let cls := arg8 c.args 0
    let max := if arg8 c.args 1 = 0 then 1 else if 8 < arg8 c.args 1 then 8 else arg8 c.args 1
    let flagged := s.contexts.filter (fun y => (noticeOf y.2.notices cls).isSome)
    let taken := flagged.take max
    (cls ∉ [0, 1, 2, 5, 7] → exec .fetchNotices s = .next (answer s c .badArgument [])) ∧
    (cls ∈ [0, 1, 2, 5, 7] →
      exec .fetchNotices s =
        .next
          (answer
            { s with
              contexts :=
                s.contexts.map (fun y =>
                  if y ∈ taken then (y.1, { y.2 with notices := clearNotice y.2.notices cls }) else y) }
            c .ok
            ([word taken.length, word (if max < flagged.length then 1 else 0)]
              ++ taken.flatMap (fun y => y.2.tag :: detailWords (noticeOf y.2.notices cls)))))) ∧
  ∀ n : Notices,
    (clearNotice n 0 = { n with failed := none } ∧ clearNotice n 1 = { n with retry := none } ∧
      clearNotice n 2 = { n with stall := none } ∧ clearNotice n 5 = { n with protocol := none } ∧
      clearNotice n 7 = { n with done := none }) ∧
    ∀ cls ∈ [0, 1, 2, 5, 7],
      noticeOf (clearNotice n cls) cls = none ∧
        ∀ other, other ≠ cls → noticeOf (clearNotice n cls) other = noticeOf n other

/-! ## Counters and snapshots -/

/-- READ_STREAM_COUNTERS (R183): the five counters and their saturated flags as they stand, cleared afterwards when the
clear argument is yes. -/
def Obligations.ReadCountersAnswersThenClears : Prop :=
  ∀ (s : State) (c : CommandRecord), Taken .readStreamCounters s c →
    (lookupTag s (argWord c.args 0) = none →
      exec .readStreamCounters s = .next (answer s c .unknownStream [])) ∧
    ∀ i x, lookupTag s (argWord c.args 0) = some (i, x) →
      let words :=
        [word x.counters.accepted.value, word (x.counters.accepted.value / 2 ^ 32),
          word x.counters.duplicate.value, word (x.counters.duplicate.value / 2 ^ 32),
          word x.counters.refused.value, word x.counters.retries.value, word x.counters.storeFailures.value,
          word ((if x.counters.accepted.saturated = true then 1 else 0)
            + (if x.counters.duplicate.saturated = true then 2 else 0)
            + (if x.counters.refused.saturated = true then 4 else 0)
            + (if x.counters.retries.saturated = true then 8 else 0)
            + (if x.counters.storeFailures.saturated = true then 16 else 0))]
      (argBool c.args 1 = false → exec .readStreamCounters s = .next (answer s c .ok words)) ∧
      (argBool c.args 1 = true →
        exec .readStreamCounters s = .next (answer (setCtx s i { x with counters := .zero }) c .ok words))

/-- SNAPSHOT, READ_SNAPSHOT and SNAPSHOT_COMPLETION (R184, R185): while COPYING both commands are refused with BUSY; an
accepted SNAPSHOT captures the counts as they stand, clears the link counters when asked and the unread indication; the
completion fills the area and sets the indication; READ_SNAPSHOT returns the area, in the words
of section 12.3, and clears the indication. With the
stream table canonical, the captured stream counts make 1024 together. With no copy in flight
SNAPSHOT_COMPLETION leaves the state as it is (log 2: the model's choice). -/
def Obligations.SnapshotCapturesAndCompletes : Prop :=
  (∀ (s : State) (c : CommandRecord), Taken .snapshot s c →
    (s.copy ≠ none → exec .snapshot s = .next (answer s c .busy [])) ∧
    (s.copy = none →
      let count := fun st => (s.contexts.filter (fun y => y.2.state == st)).length
      let v : SnapshotValues :=
        { links := s.links
          freeSlots := s.freeSlots.length
          ready := [s.ready[0].length, s.ready[1].length, s.ready[2].length, s.ready[3].length]
          claims := s.claims.length
          free := 1024 - s.contexts.length
          opened := count .opened
          ending := count .ending
          done := count .done
          failed := count .failed
          withdrawing := count .withdrawing }
      exec .snapshot s =
          .next
            (answer
              { s with
                links := if argBool c.args 0 = true then Vector.replicate 4 .zero else s.links
                unread := false
                copy := some v }
              c .ok []) ∧
        (TablesCanonical s → v.free + v.opened + v.ending + v.done + v.failed + v.withdrawing = 1024))) ∧
  (∀ (s : State) (c : CommandRecord), Taken .readSnapshot s c →
    (s.copy ≠ none → exec .readSnapshot s = .next (answer s c .busy [])) ∧
    (s.copy = none →
      let v := s.area
      let two := fun n : Nat => [word n, word (n / 2 ^ 32)]
      let link := fun k : LinkCounters =>
        two k.arrivals.value ++ two k.accepted.value ++ two k.duplicate.value
          ++ [word k.refused.value, word k.unknownStream.value]
      let bit := fun b : Bool => if b = true then 1 else 0
      let flags := fun k : LinkCounters =>
        bit k.arrivals.saturated + 2 * bit k.accepted.saturated + 4 * bit k.duplicate.saturated
          + 8 * bit k.refused.saturated + 16 * bit k.unknownStream.saturated
      exec .readSnapshot s =
        .next
          (answer { s with unread := false } c .ok
            (link v.links[0] ++ link v.links[1] ++ link v.links[2] ++ link v.links[3]
              ++ [word (flags v.links[0] + 2 ^ 5 * flags v.links[1] + 2 ^ 10 * flags v.links[2] + 2 ^ 15 * flags v.links[3])]
              ++ [word v.freeSlots] ++ v.ready.map word ++ [word v.claims]
              ++ [word v.free, word v.opened, word v.ending, word v.done, word v.failed, word v.withdrawing])))) ∧
  (∀ (s : State) (v : SnapshotValues), s.copy = some v →
    exec .snapshotCompletion s = .next { s with area := v, unread := true, copy := none }) ∧
  ∀ s : State, s.copy = none → exec .snapshotCompletion s = .next s

/-! ## Engine and drain summaries -/

/-- QUERY_ENGINE (R192) and DRAIN_STATUS in its two forms (R156) answer with values as they stand and change nothing. That
the command's four holds stand in one word is log 10. -/
def Obligations.QueriesReportState : Prop :=
  (∀ (s : State) (c : CommandRecord), Taken .queryEngine s c →
    exec .queryEngine s =
      .next
        (answer s c .ok
          [0x5A460001, word (slotCount s.extentSize), word (extentBytes s.extentSize), word s.freeSlots.length])) ∧
  (∀ (s : State) (c : CommandRecord), Taken .drainStatus s c →
    let hold := fun q : Fin 4 => if s.hold[q] = true then 1 else 0
    exec .drainStatus s =
      .next
        (answer s c .ok
          [word s.ready[0].length, word s.ready[1].length, word s.ready[2].length, word s.ready[3].length,
            word (hold 0 + 2 * hold 1 + 4 * hold 2 + 8 * hold 3), word (64 - s.claims.length)])) ∧
  ∀ s : State, s.drainAnswer = none →
    exec .drainStatusRequest s =
      .next
        { s with
          drainAnswer :=
            some
              (.summary
                { ready := [s.ready[0].length, s.ready[1].length, s.ready[2].length, s.ready[3].length]
                  hold := [s.hold[0], s.hold[1], s.hold[2], s.hold[3]]
                  freeClaims := 64 - s.claims.length }) }

/-- RESET_ENGINE (R194): the copy is abandoned, every record is freed with its slot's generation one higher, every context
becomes FREE, the free-slot list is rebuilt, the holds, the cursor, the services, the link counters and the overrun flag
are cleared, and everything else is kept. Of the attention classes only POOL_LOW, with the low mark at the slot count,
and SNAPSHOT_DONE, with the indication kept set, are pending afterwards. -/
def Obligations.ResetEngineClearsHeldWork : Prop :=
  ∀ (s : State) (c : CommandRecord), Taken .resetEngine s c → PoolTrue s →
    ∃ t, exec .resetEngine s = .next (answer t c .ok []) ∧
      (∀ n, genOf t n = if (tabGet s.extents n).isSome = true then genOf s n + 1 else genOf s n) ∧
      (SettingsInRange s →
        ∀ d : Fin 8, classPending t d = true ↔
          (d = 4 ∧ s.lowMark = slotCount s.extentSize) ∨ (d = 6 ∧ s.unread = true)) ∧
      t =
        { s with
          copy := none
          extents := []
          gens := t.gens
          ready := Vector.replicate 4 []
          claims := []
          contexts := []
          freeSlots := List.range (slotCount s.extentSize)
          hold := Vector.replicate 4 false
          cursor := { round := 0, queue := 0 }
          inService := Vector.replicate 8 false
          links := Vector.replicate 4 .zero
          overrun := false }

/-! ## The drain port -/

/-- While an answer waits no request is taken (R133; that the row then leaves the state as it is, is log 3);
DRAIN_ANSWER_ACCEPT takes the answer away, keeping its bytes in `drainOut`, the model's own (log 9); a request of an
unknown kind is answered UNKNOWN_REQUEST and changes nothing. With no answer waiting DRAIN_ANSWER_ACCEPT leaves
the state as it is (log 2: the model's choice). The bytes of a status record, a
DATA record, a status summary, a descriptor, a filler and an END record are those of section 12.2. -/
def Obligations.DrainPortTakesOneRequest : Prop :=
  (∀ s : State, s.drainAnswer ≠ none →
    (∀ q n, exec (.readReady q n) s = .next s) ∧ (∀ n, exec (.chainRead n) s = .next s) ∧
    (∀ h o n, exec (.readData h o n) s = .next s) ∧ (∀ h o, exec (.release h o) s = .next s) ∧
    exec .drainStatusRequest s = .next s ∧ ∀ k, exec (.unknownRequest k) s = .next s) ∧
  (∀ (s : State) (k : Byte), s.drainAnswer = none →
    exec (.unknownRequest k) s = .next { s with drainAnswer := some (.status .unknownRequest) }) ∧
  (∀ (s : State) (a : DrainAnswer), s.drainAnswer = some a →
    exec .drainAnswerAccept s = .next { s with drainAnswer := none, drainOut := answerBytes a }) ∧
  (∀ s : State, s.drainAnswer = none → exec .drainAnswerAccept s = .next s) ∧
  (let byte := fun n k : Nat => BitVec.ofNat 8 (n / 256 ^ k)
    let bit := fun b : Bool => if b = true then 1 else 0
    (∀ st, answerBytes (.status st) = [byte (drainCode st) 0, 0, 0, 0, 0, 0, 0, 0]) ∧
    (∀ bytes : List Byte,
      answerBytes (.data bytes) =
        [0, 0, 0, 0, byte bytes.length 0, byte bytes.length 1, byte bytes.length 2, byte bytes.length 3] ++ bytes) ∧
    (∀ (r0 r1 r2 r3 n : Nat) (b0 b1 b2 b3 : Bool),
      answerBytes (.summary { ready := [r0, r1, r2, r3], hold := [b0, b1, b2, b3], freeClaims := n }) =
        [byte r0 0, byte r0 1, byte r1 0, byte r1 1, byte r2 0, byte r2 1, byte r3 0, byte r3 1,
         byte (bit b0 + 2 * bit b1 + 4 * bit b2 + 8 * bit b3) 0, byte n 0, 0, 0]) ∧
    (∀ l, answerBytes (.records l) = l.flatMap readRecordBytes) ∧
    (∀ d : Descriptor,
      readRecordBytes (.extent d) =
        [1, byte (bit d.last + 2 * bit d.unchecked + 4 * bit d.retried + 8 * bit d.requeued + 16 * bit d.streamFailed) 0,
         byte d.handle.slot 0, byte d.handle.slot 1, d.handle.gen, byte d.queue 0, 0, 0,
         byte d.tag.toNat 0, byte d.tag.toNat 1, byte d.tag.toNat 2, byte d.tag.toNat 3,
         byte d.index 0, byte d.index 1, byte d.index 2, byte d.index 3,
         byte d.offset 0, byte d.offset 1, byte d.offset 2, byte d.offset 3, byte d.offset 4, byte d.offset 5, 0, 0,
         byte d.length 0, byte d.length 1, byte d.length 2, byte d.length 3,
         byte d.pcv.s 0, byte d.pcv.s 1, byte d.pcv.s 2, byte d.pcv.s 3,
         byte d.pcv.t 0, byte d.pcv.t 1, byte d.pcv.t 2, byte d.pcv.t 3, 0, 0, 0, 0]) ∧
    readRecordBytes .filler = [1, 0x20] ++ List.replicate 38 0 ∧ readRecordBytes .endRecord = [2] ++ List.replicate 39 0) ∧
  [.released, .releasedFailed, .requeued, .withdrawn, .staleHandle, .notClaimed, .badOffset, .unknownRequest].map drainCode =
    [0x01, 0x02, 0x03, 0x04, 0x10, 0x11, 0x12, 0x1F]

/-- READ_READY (R143, R144): with the clamped count n, r descriptors leave the head of the queue in queue order, r being 0
under a hold and otherwise the smallest of n, the ready count and the free claims; their records become CLAIMED, their
handles enter the claim table, and the answer is completed by the queue's read mode. The descriptor of an extent (R140,
R141): its fields are filled from the record, the stream and the queue, and its flags from their state at the hand-out. -/
def Obligations.ReadReadyHandsOutDescriptors : Prop :=
  (∀ (s : State) (q : Fin 4) (count : BitVec 8), s.drainAnswer = none →
    let n := if count.toNat = 0 then 1 else if 32 < count.toNat then 32 else count.toNat
    let r := if s.hold[q] = true then 0 else min n (min s.ready[q].length (64 - s.claims.length))
    let heads := s.ready[q].take r
    ∃ t, exec (.readReady q count) s = .next t ∧
      (∀ slot, tabGet t.extents slot =
        if slot ∈ heads.map (fun h => h.slot) then (tabGet s.extents slot).map (fun x => { x with state := .claimed })
        else tabGet s.extents slot) ∧
      t =
        { s with
          ready := s.ready.set q (s.ready[q].drop r)
          claims := s.claims ++ heads
          extents := t.extents
          drainAnswer :=
            some
              (.records
                (heads.map (fun h => .extent (descriptorOf s q h)) ++
                  match s.params[q].mode with
                  | .terminated => if r < n then [.endRecord] else []
                  | .padded => List.replicate (n - r) .filler)) }) ∧
  ∀ (s : State) (q : Fin 4) (h : Handle) (r : Extent) (x : Context),
    tabGet s.extents h.slot = some r → ctxOf s r.stream = some x →
    let e := extentBytes s.extentSize
    let d := descriptorOf s q h
    d.handle = h ∧ d.queue = q.val ∧ d.tag = x.tag ∧ d.index = r.index ∧ d.offset = r.index * e ∧ d.pcv = r.acc ∧
      (x.length = none → d.length = e) ∧
      (∀ l, x.length = some l →
        d.length = if r.index + 1 = extentCount e l then l - (extentCount e l - 1) * e else e) ∧
      (d.last = true ↔ ∃ l, x.length = some l ∧ r.index + 1 = extentCount e l) ∧
      (d.unchecked = true ↔ r.checked = false) ∧ (d.retried = true ↔ 0 < r.retries) ∧
      (d.requeued = true ↔ 0 < r.storeAttempts) ∧ (d.streamFailed = true ↔ x.state = .failed)

/-- The quota of a queue of weight w in a round (R160): floor(w / 4), and one more in the rounds below w mod 4; the four
quotas add up to w, and none is above 32 for a weight up to 127. The walking of one position of a chained read (R158, R159,
steps 3 and 4 of R162): a visited queue hands out the smallest of its quota, the remaining count, its ready count and the
free claims, from its head; a queue passed over hands out nothing; the cursor moves to the next position of the cycle of
sixteen. -/
def Obligations.QuotasAndWalkedPositions : Prop :=
  (∀ w : Nat,
    (∀ i < 4, quota w i = w / 4 + if i < w % 4 then 1 else 0) ∧
    quota w 0 + quota w 1 + quota w 2 + quota w 3 = w ∧ (w ≤ 127 → ∀ i < 4, quota w i ≤ 32)) ∧
  (∀ (s : State) (remaining : Nat),
    let q := s.cursor.queue
    let p := s.params[q]
    let h :=
      if p.member = true ∧ 0 < p.weight ∧ s.hold[q] = false then
        min (quota p.weight s.cursor.round.val) (min remaining (min s.ready[q].length (64 - s.claims.length)))
      else 0
    let heads := s.ready[q].take h
    visitCount s remaining = h ∧
    (walkPosition s remaining).2 = heads.map (fun x => .extent (descriptorOf s q x)) ∧
    (∀ slot, tabGet (walkPosition s remaining).1.extents slot =
      if slot ∈ heads.map (fun x => x.slot) then (tabGet s.extents slot).map (fun x => { x with state := .claimed })
      else tabGet s.extents slot) ∧
    (walkPosition s remaining).1 =
      { s with
        ready := s.ready.set q (s.ready[q].drop h)
        claims := s.claims ++ heads
        extents := (walkPosition s remaining).1.extents
        cursor :=
          if q = 3 then { round := s.cursor.round + 1, queue := 0 }
          else { round := s.cursor.round, queue := q + 1 } })

/-- CHAIN_READ (R161 to R163): with the count clamped to 1 to 128, the positions are walked until the claim table is full,
the count has run out or an empty pass has been walked, and the answer is the records handed out with one END record. -/
def Obligations.ChainReadWalksUntilStopped : Prop :=
  ∀ (s : State) (count : BitVec 8), s.drainAnswer = none →
    let n := if count.toNat = 0 then 1 else if 128 < count.toNat then 128 else count.toNat
    ∃ t l, ChainWalks s n 0 t l ∧ l.length ≤ n ∧
      exec (.chainRead count) s = .next { t with drainAnswer := some (.records (l ++ [.endRecord])) }

/-- The judgement of a handle (R146), for READ_DATA and RELEASE alike: STALE_HANDLE where its generation is not its slot's,
NOT_CLAIMED where the claim table does not hold it, and no state but the answer changes; any other handle is a current
claim. READ_DATA of a current claim (R147): BAD_OFFSET at or above the extent's length; otherwise the bytes of the slot from
the offset on, as many as the clamped length and the rest of the extent allow; no state but the answer changes. -/
def Obligations.HandlesAreJudgedAndDataRead : Prop :=
  (∀ (s : State) (h : Handle) (o : Word) (n : BitVec 17) (outcome : StoreOutcome), s.drainAnswer = none →
    (genOf s h.slot ≠ h.gen →
      exec (.readData h o n) s = .next { s with drainAnswer := some (.status .staleHandle) } ∧
      exec (.release h outcome) s = .next { s with drainAnswer := some (.status .staleHandle) }) ∧
    (genOf s h.slot = h.gen → h ∉ s.claims →
      exec (.readData h o n) s = .next { s with drainAnswer := some (.status .notClaimed) } ∧
      exec (.release h outcome) s = .next { s with drainAnswer := some (.status .notClaimed) }) ∧
    (PoolTrue s → ClaimsExact s → genOf s h.slot = h.gen → h ∈ s.claims → ∃ r x, CurrentClaim s h r x)) ∧
  (∀ (s : State) (h : Handle) (r : Extent) (x : Context) (offset : Word) (length : BitVec 17), s.drainAnswer = none →
    CurrentClaim s h r x →
    let e := extentBytes s.extentSize
    let len := extentLength e x.length r.index
    let m := if length.toNat = 0 then 1 else if 65536 < length.toNat then 65536 else length.toNat
    (len ≤ offset.toNat →
      exec (.readData h offset length) s = .next { s with drainAnswer := some (.status .badOffset) }) ∧
    (offset.toNat < len →
      exec (.readData h offset length) s =
        .next
          { s with
            drainAnswer :=
              some
                (.data
                  ((List.range (min m (len - offset.toNat))).map
                    (fun j => readByte s.mem (h.slot * e + offset.toNat + j)))) }))

/-- The bytes that READ_DATA returns of a claimed extent have, over its whole length, the PCV that its descriptor carries
(R96, R147): they are the bytes that were accumulated. -/
def Obligations.ClaimedBytesHaveDescriptorPcv : Prop :=
  ∀ (s : State) (h : Handle) (r : Extent) (x : Context), PoolTrue s → RangesTrue s → AccumulatorsTrue s →
    CurrentClaim s h r x →
    let e := extentBytes s.extentSize
    ∀ q, (descriptorOf s q h).pcv =
      pcvOf ((List.range (extentLength e x.length r.index)).map (fun p => readByte s.mem (h.slot * e + p)))

/-- RELEASE with the outcome STORED, of a current claim on a stream that is not WITHDRAWING (R149): RELEASED, or
RELEASED_FAILED on a stream in FAILED; the record is freed by the freeing step of R60 and nothing else changes. RELEASE with
the outcome FAILED_STORE within the store limit (R150): REQUEUED; the record's store attempts rise by one and it rejoins,
READY, the tail of its stream's queue, whatever the hold; the stream counts a store failure (R148). -/
def Obligations.ReleasesFreeOrRequeue : Prop :=
  (∀ (s : State) (h : Handle) (r : Extent) (x : Context), s.drainAnswer = none → CurrentClaim s h r x →
    x.state ≠ .withdrawing →
    ∃ t, exec (.release h .stored) s = .next t ∧
      (∀ n, genOf t n = if n = h.slot then genOf s n + 1 else genOf s n) ∧
      t =
        { s with
          extents := tabErase s.extents h.slot
          freeSlots := s.freeSlots ++ [h.slot]
          gens := t.gens
          claims := s.claims.filter (fun g => g != h)
          contexts := tabSet s.contexts r.stream { x with held := x.held - 1 }
          drainAnswer := some (.status (if x.state = .failed then .releasedFailed else .released)) }) ∧
  (∀ (s : State) (h : Handle) (r : Extent) (x : Context), s.drainAnswer = none → CurrentClaim s h r x →
    x.state ≠ .withdrawing → r.storeAttempts + 1 < s.storeLimit →
    exec (.release h .failedStore) s =
      .next
        { s with
          extents := tabSet s.extents h.slot { r with state := .ready, storeAttempts := r.storeAttempts + 1 }
          claims := s.claims.filter (fun g => g != h)
          ready := s.ready.set x.queue (s.ready[x.queue] ++ [h])
          contexts :=
            tabSet s.contexts r.stream
              { x with
                counters :=
                  { x.counters with storeFailures := x.counters.storeFailures.add Config.max16 1 } }
          drainAnswer := some (.status .requeued) })

/-- The last releases: a FAILED_STORE that exhausts the store limit is answered RELEASED_FAILED and the record is freed;
a stream in OPEN, ENDING or DONE then fails with cause STORE, its unsealed records being freed in ascending slot number and
the hold set if a READY record remains, while one in FAILED stays as it is (R151). The positions of the freed unsealed
records return to ABSENT, and every other position, that of the released extent included, stays as it was. That the released slot
joins the free-slot list before theirs, as R151 has it against the last words of R60, is log 18 (the model's choice). A release on a stream in WITHDRAWING,
whatever its outcome, is answered WITHDRAWN and the record is freed; the release of the last claim takes the stream to
FAILED with cause ABORTED (R15). -/
def Obligations.LastReleasesEndStreams : Prop :=
  ∀ (s : State) (h : Handle) (r : Extent) (x : Context), s.drainAnswer = none → PoolTrue s → CurrentClaim s h r x →
    let counted := { x.counters with storeFailures := x.counters.storeFailures.add Config.max16 1 }
    let unsealed := (recordsOf s r.stream).filter (fun y => y.2.state.unsealed)
    (s.storeLimit ≤ r.storeAttempts + 1 → x.state ≠ .withdrawing →
      let gone := h.slot :: (if x.state = .failed then [] else unsealed.map (fun y => y.1))
      ∃ t d, exec (.release h .failedStore) s = .next t ∧
        (x.state = .failed → d = { x with held := x.held - 1, counters := counted }) ∧
        (x.state ≠ .failed →
          d =
            { x with
              state := .failed
              cause := some .store
              held := x.held - 1 - unsealed.length
              phase := .off
              notices := { x.notices with failed := some .store }
              counters := counted
              window := d.window } ∧
            ∀ k, winGet d k = if unsealed.any (fun y => y.2.index == k) then .absent else winGet x k) ∧
        (∀ n, genOf t n = if n ∈ gone then genOf s n + 1 else genOf s n) ∧
        t =
          { s with
            contexts := tabSet s.contexts r.stream d
            extents := s.extents.filter (fun y => !gone.contains y.1)
            freeSlots := s.freeSlots ++ gone
            gens := t.gens
            claims := s.claims.filter (fun g => g != h)
            hold :=
              if x.state ≠ .failed ∧ (recordsOf s r.stream).any (fun y => y.2.state == .ready) = true then
                s.hold.set x.queue true
              else s.hold
            drainAnswer := some (.status .releasedFailed) }) ∧
    (x.state = .withdrawing → ∀ outcome,
      let last := (recordsOf s r.stream).all (fun y => y.1 == h.slot || y.2.state != .claimed)
      ∃ t, exec (.release h outcome) s = .next t ∧
        (∀ n, genOf t n = if n = h.slot then genOf s n + 1 else genOf s n) ∧
        t =
          { s with
            contexts :=
              tabSet s.contexts r.stream
                { x with
                  state := if last = true then .failed else .withdrawing
                  cause := if last = true then some .aborted else x.cause
                  held := x.held - 1
                  counters := if outcome = .failedStore then counted else x.counters }
            extents := tabErase s.extents h.slot
            freeSlots := s.freeSlots ++ [h.slot]
            gens := t.gens
            claims := s.claims.filter (fun g => g != h)
            drainAnswer := some (.status .withdrawn) })

/-! ## The steps inside a command -/

/-- The freeing step (R60, R61) of a record, by its state: it leaves its ready queue or the claim table, the window position
of an unsealed one returns to ABSENT, the held count falls by one, the generation rises by one modulo 256, and the slot
joins the tail of the free-slot list. -/
def Obligations.FreeingStepReturnsSlot : Prop :=
  ∀ (s : State) (slot : Nat) (r : Extent) (x : Context), tabGet s.extents slot = some r → ctxOf s r.stream = some x →
    (∀ n, genOf (freeExtent s slot) n = if n = slot then genOf s n + 1 else genOf s n) ∧
    freeExtent s slot =
      { s with
        contexts :=
          tabSet s.contexts r.stream
            { x with
              held := x.held - 1
              window :=
                if r.state = .filling ∨ r.state = .awaitCheck then winSet x r.index .absent else x.window }
        extents := tabErase s.extents slot
        freeSlots := s.freeSlots ++ [slot]
        gens := (freeExtent s slot).gens
        ready :=
          if r.state = .ready then
            s.ready.set x.queue (s.ready[x.queue].filter (fun h => h != handleOf s slot))
          else s.ready
        claims := if r.state = .claimed then s.claims.filter (fun h => h != handleOf s slot) else s.claims }

/-- Automatic failure handling (R11, R12): the state and cause are set, the unsealed records are freed in ascending slot
number, the hold is set if a READY record remains, the timer goes OFF and the FAILED notice carries the cause; READY and
CLAIMED records, the ready queues and the claim table stay. A stream in FAILED or WITHDRAWING is left as it is. -/
def Obligations.FailureHandlingFreesUnsealed : Prop :=
  ∀ (s : State) (i : Nat) (x : Context) (cause : Cause), PoolTrue s → ctxOf s i = some x →
    (x.state = .failed ∨ x.state = .withdrawing → failStream s i cause = s) ∧
    (x.state ≠ .failed → x.state ≠ .withdrawing →
      let gone := (recordsOf s i).filter (fun y => y.2.state.unsealed)
      ∃ t d, failStream s i cause = t ∧
        d =
          { x with
            state := .failed
            cause := some cause
            held := x.held - gone.length
            phase := .off
            notices := { x.notices with failed := some cause }
            window := d.window } ∧
        (∀ k, winGet d k = if gone.any (fun y => y.2.index == k) then .absent else winGet x k) ∧
        (∀ n, genOf t n = if n ∈ gone.map (fun y => y.1) then genOf s n + 1 else genOf s n) ∧
        t =
          { s with
            contexts := tabSet s.contexts i d
            extents := s.extents.filter (fun y => !(y.2.stream == i && y.2.state.unsealed))
            freeSlots := s.freeSlots ++ gone.map (fun y => y.1)
            gens := t.gens
            hold :=
              if (recordsOf s i).any (fun y => y.2.state == .ready) then s.hold.set x.queue true else s.hold })

/-- The advance of the retired edge (R22): the edge passes the consecutive SEALED positions from position 0 and stops at one
that is not SEALED, every extent from the new edge on keeps its position, and the positions that enter are ABSENT. -/
def Obligations.EdgeAdvancePassesSealed : Prop :=
  ∀ x : Context,
    let d := advanceEdge x
    x.edge ≤ d.edge ∧ (∀ k, x.edge ≤ k → k < d.edge → winGet x k = .sealed) ∧ winGet x d.edge ≠ .sealed ∧
      (∀ k, d.edge ≤ k → winGet d k = winGet x k) ∧ d = { x with edge := d.edge, window := d.window }

/-- The routing of a complete extent (R70, R79), the outcome of its compare (R105) and its seal (R106). A FILLING record
whose one fill range is the whole extent is compared when it holds a value, and otherwise waits for one or seals
unchecked; a compare seals, resets or fails the stream. The seal of an extent of a running stream: the record becomes READY
with its checked field, its handle joins the tail of its stream's queue, its position becomes SEALED and the edge advances,
the object accumulators take the fold of R91, and the timer restarts; then the DONE evaluation is made. -/
def Obligations.CompleteExtentsAreRoutedAndSealed : Prop :=
  ∀ (s : State) (slot : Nat) (r : Extent) (x : Context), tabGet s.extents slot = some r → ctxOf s r.stream = some x →
    let e := extentBytes s.extentSize
    (¬ (r.state = .filling ∧ r.ranges = [(0, extentLength e x.length r.index)]) → routeComplete s slot = s) ∧
    (r.state = .filling → r.ranges = [(0, extentLength e x.length r.index)] →
      (r.expected = none → x.extentCheck = true →
        routeComplete s slot = { s with extents := tabSet s.extents slot { r with state := .awaitCheck } }) ∧
      (r.expected = none → x.extentCheck = false → routeComplete s slot = sealExtent s slot false) ∧
      (r.expected ≠ none → routeComplete s slot = (compareExtent s slot).1)) ∧
    (r.expected = some r.acc → compareExtent s slot = (sealExtent s slot true, .sealed)) ∧
    (∀ v, r.expected = some v → v ≠ r.acc → r.retries < x.retryLimit →
      (compareExtent s slot).2 = .retry ∧
      (compareExtent s slot).1 =
        { s with
          extents :=
            tabSet s.extents slot
              { r with state := .filling, ranges := [], acc := { s := 0, t := 0 }, retries := r.retries + 1 }
          contexts :=
            tabSet s.contexts r.stream
              { x with
                notices := { x.notices with retry := some r.index }
                counters := { x.counters with retries := x.counters.retries.add Config.max16 1 } } }) ∧
    (∀ v, r.expected = some v → v ≠ r.acc → x.retryLimit ≤ r.retries →
      compareExtent s slot = (failStream s r.stream .extentCheck, .freed)) ∧
    (x.state = .opened ∨ x.state = .ending → ∀ checked : Bool,
      let w := advanceEdge { x with window := winSet x r.index .sealed }
      sealExtent s slot checked =
        evalDone
          { s with
            extents := tabSet s.extents slot { r with state := .ready, checked := checked }
            ready := s.ready.set x.queue (s.ready[x.queue] ++ [handleOf s slot])
            contexts :=
              tabSet s.contexts r.stream
                { x with
                  edge := w.edge
                  window := w.window
                  acc :=
                    { s := (x.acc.s + r.acc.s) % Config.modulus
                      t := (x.acc.t + r.acc.t + (r.index * e / 4) % Config.modulus * r.acc.s) % Config.modulus }
                  count := 0
                  phase := startPhase x.compareA x.compareB } }
          r.stream)

/-- The DONE evaluation (R9, R10) with the object compare it makes (R113): it acts on a stream in ENDING whose retired edge
has reached N, which enters DONE with its timer OFF and the DONE notice, waits for the object's value, or fails. -/
def Obligations.DoneEvaluationDecides : Prop :=
  ∀ (s : State) (i : Nat) (x : Context), ctxOf s i = some x →
    (x.state ≠ .ending → evalDone s i = s) ∧
    ∀ l, x.state = .ending → x.length = some l →
      let n := extentCount (extentBytes s.extentSize) l
      let done := setCtx s i { x with state := .done, phase := .off, notices := { x.notices with done := some n } }
      (x.edge < n → evalDone s i = s) ∧
      (n ≤ x.edge →
        (x.expected = none → x.objectCheck = true → evalDone s i = s) ∧
        (x.expected = none → x.objectCheck = false → evalDone s i = done) ∧
        (x.expected = some x.acc → evalDone s i = done) ∧
        ∀ v, x.expected = some v → x.acc ≠ v → evalDone s i = failStream s i .objectCheck)

/-! ## Ranges, holes and check values -/

/-- Insertion of a piece into fill ranges that satisfy R74 (R76, R77): the result covers exactly what the ranges or the
piece covered, satisfies R74 again, and has the count c − t + 1, t being the ranges that overlap the piece or touch it.
Trimming of a piece (R75): its sub-pieces ascend, do not touch, cover exactly the positions of the piece that no range
covers, and number at most one more than the ranges. -/
def Obligations.PiecesTrimAndInsert : Prop :=
  (∀ (rs : List (Nat × Nat)) (a b : Nat), rangesFrom 0 rs = true → a < b →
    (∀ p, covers (insertRange rs a b) p = true ↔ covers rs p = true ∨ (a ≤ p ∧ p < b)) ∧
    rangesFrom 0 (insertRange rs a b) = true ∧
    (insertRange rs a b).length + (rs.filter (fun r => decide (r.1 ≤ b ∧ a ≤ r.2))).length = rs.length + 1 ∧
    countAfter rs a b = (insertRange rs a b).length) ∧
  (∀ (rs : List (Nat × Nat)) (a b : Nat), rangesFrom 0 rs = true →
    (∀ p, covers (trimPiece rs a b) p = true ↔ (a ≤ p ∧ p < b) ∧ covers rs p = false) ∧
    rangesFrom a (trimPiece rs a b) = true ∧ (trimPiece rs a b).length ≤ rs.length + 1)

/-- The first hole (R18) of a stream whose records satisfy R74 is the lowest offset, from the retired edge on, that the
stream does not cover: with L known, L where every offset below L is covered; with L unknown, unknown where every offset
below the end of the highest fill range is covered. That end is the end of a fill range of a record of the stream, or the
retired edge times E where no range ends above it. -/
def Obligations.FirstHoleIsLowestUncovered : Prop :=
  ∀ (s : State) (i : Nat) (x : Context), PoolTrue s → RangesTrue s → WindowsTrue s → ctxOf s i = some x →
    let e := extentBytes s.extentSize
    let high := highestEnd s i x
    (∀ l, x.length = some l →
      ∃ p, firstHole s i x = .offset p ∧ p ≤ l ∧
        (∀ y, x.edge * e ≤ y → y < p → offsetCovered s i x y = true) ∧
        (p < l → x.edge * e ≤ p ∧ offsetCovered s i x p = false)) ∧
    (x.length = none →
      (firstHole s i x = .unknown ↔ ∀ y, x.edge * e ≤ y → y < high → offsetCovered s i x y = true) ∧
      ∀ p, firstHole s i x = .offset p →
        x.edge * e ≤ p ∧ p < high ∧ offsetCovered s i x p = false ∧
          ∀ y, x.edge * e ≤ y → y < p → offsetCovered s i x y = true) ∧
    (∀ z ∈ recordsOf s i, ∀ g ∈ z.2.ranges, z.2.index * e + g.2 ≤ high) ∧ x.edge * e ≤ high ∧
    (high = x.edge * e ∨ ∃ z ∈ recordsOf s i, ∃ g ∈ z.2.ranges, high = z.2.index * e + g.2)

/-- The accumulation of a sub-piece (R87, R89): accumulated at word offset j after the 4·j bytes before it, it gives the PCV
of the whole; accumulated alone from zero, the PCV of its bytes behind zeros. The fold (R91, R92): the reduced offset of an
extent is its object word offset modulo M, and folding the PCV of extent k into the PCV of the k·E bytes before it gives the
PCV of both together. The order of two accumulations, and of two folds, does not matter. -/
def Obligations.CheckValuesAddUp : Prop :=
  ((∀ (before bytes : List Byte) (j : Nat), before.length = 4 * j →
    accumulate (pcvOf before) j bytes = pcvOf (before ++ bytes)) ∧
  (∀ (bytes : List Byte) (j : Nat),
    accumulate { s := 0, t := 0 } j bytes = pcvOf (List.replicate (4 * j) 0 ++ bytes)) ∧
  ∀ (p : Pcv) (j k : Nat) (a b : List Byte), accumulate (accumulate p j a) k b = accumulate (accumulate p k b) j a) ∧
  ((∀ (sz : ExtentSize) (k : Nat), k * extentBytes sz ≤ 2 ^ 44 →
    wordOffset (extentBytes sz) k = (k * extentBytes sz / 4) % Config.modulus) ∧
  (∀ (sz : ExtentSize) (k : Nat) (before extent : List Byte), k * extentBytes sz ≤ 2 ^ 44 →
    before.length = k * extentBytes sz →
    foldPcv (pcvOf before) (extentBytes sz) k (pcvOf extent) = pcvOf (before ++ extent)) ∧
  ∀ (acc p q : Pcv) (e j k : Nat), foldPcv (foldPcv acc e j p) e k q = foldPcv (foldPcv acc e k q) e j p)

/-! ## Invariants that every step keeps -/

/-- Every invariant below holds right after power-on. -/
def Obligations.PowerOnMeetsInvariants : Prop :=
  PoolTrue State.reset ∧ QueuesExact State.reset ∧ ClaimsExact State.reset ∧ WindowsTrue State.reset ∧
    StreamsTrue State.reset ∧ RangesTrue State.reset ∧ AccumulatorsTrue State.reset ∧ PcvsReduced State.reset ∧
    TimersTrue State.reset ∧ CountersTrue State.reset ∧ ServicesDistinct State.reset ∧ QueuesBounded State.reset ∧
    SettingsInRange State.reset ∧ memWf State.reset.mem = true

/-- The pool stays accounted for (R2, R4, R57, R65): tags unique, every slot free or bound and not both, every record on a
stream that is not FREE, every held count the number of the stream's records. -/
def Obligations.PoolStaysAccounted : Prop :=
  ∀ s t : State, PoolTrue s → step s = .next t → PoolTrue t

/-- READY extents and queue entries, CLAIMED extents and claims, stay one to one (R134, R138). -/
def Obligations.QueuesAndClaimsStayExact : Prop :=
  ∀ s t : State, PoolTrue s → QueuesExact s → ClaimsExact s → step s = .next t → QueuesExact t ∧ ClaimsExact t

/-- Window positions and extent records stay in step (R20, R65). -/
def Obligations.WindowsStayTrue : Prop :=
  ∀ s t : State, PoolTrue s → QueuesExact s → ClaimsExact s → WindowsTrue s → step s = .next t → WindowsTrue t

/-- Every context stays as the table of section 1.2 describes its state, and L stays beyond everything held (R9, R10, R24,
R68, R127). -/
def Obligations.StreamStatesStayTrue : Prop :=
  ∀ s t : State, PoolTrue s → WindowsTrue s → StreamsTrue s → step s = .next t → StreamsTrue t

/-- R74 holds of every record after every step, and a record that waits for its value or has sealed stays complete. -/
def Obligations.FillRangesStayOrdered : Prop :=
  ∀ s t : State, PoolTrue s → QueuesExact s → ClaimsExact s → StreamsTrue s → RangesTrue s → step s = .next t →
    RangesTrue t

/-- R89 after every step: the accumulators of every record lie in 0 to M − 1 and equal the PCV of the extent's bytes with
every byte outside its fill ranges taken as zero. -/
def Obligations.AccumulatorsStayPcvOfHeldBytes : Prop :=
  ∀ s t : State, PoolTrue s → QueuesExact s → ClaimsExact s → RangesTrue s → AccumulatorsTrue s → step s = .next t →
    AccumulatorsTrue t ∧ ∀ x ∈ t.extents, x.2.acc.s < Config.modulus ∧ x.2.acc.t < Config.modulus

/-- Counters (R182: none exceeds its maximum, and a saturated flag is set exactly while its counter holds the maximum),
in-service priorities (R172: pairwise distinct), settings, timers, check values, port queues and buffer memory stay in
their ranges and forms (R28, R54, R64, R88, R95, R120, R127, R136, R152, R170, R187, R188; the form of memory is log 6),
where the stream and extent tables are canonical (R1, R2), a part of PoolTrue, which every step keeps. -/
def Obligations.RegistersStayInRange : Prop :=
  ∀ s t : State, TablesCanonical s → step s = .next t →
    (CountersTrue s → CountersTrue t) ∧ (ServicesDistinct s → ServicesDistinct t) ∧
      (SettingsInRange s → SettingsInRange t) ∧ (TimersTrue s → TimersTrue t) ∧ (PcvsReduced s → PcvsReduced t) ∧
      (QueuesBounded s → QueuesBounded t) ∧ (memWf s.mem = true → memWf t.mem = true)

/-! ## Records of the ports -/

/-- Every arrival record, every command record and every drain request that can be sent reads back as it was written
(sections 12.1, 12.2, 12.3). -/
def Obligations.PortRecordsRoundTrip : Prop :=
  ((∀ a : Arrival, a.wellFormed = true → decodeArrival (encodeArrival a).1 (encodeArrival a).2 = some a) ∧
  ∀ c : CommandRecord, c.wellFormed = true → decodeCommand (encodeCommand c).1 (encodeCommand c).2 = some c) ∧
  (∀ (i : Instr) (r : BitVec 128), i.wellFormed = true → encodeRequest i = some r → decodeRequest r = i)
end

