-- ==== Sys2Proof/Laws/Table.lean ====
section
/-! SUPPORT. The laws of sparse tables: reading after writing and after removing, and the canonical form. -/
namespace Sys2Proof.Machine

variable {α : Type}

@[simp] theorem tabGet_tabSet_same (t : Table α) (k : Nat) (v : α) : tabGet (tabSet t k v) k = some v := by
  induction t with
  | nil => simp [tabSet, tabGet]
  | cons x t ih =>
    obtain ⟨j, w⟩ := x
    unfold tabSet
    split
    · simp [tabGet]
    · split
      · simp [tabGet]
      · simp [tabGet, *]

theorem tabGet_tabSet_other (t : Table α) {j k : Nat} (v : α) (h : j ≠ k) :
    tabGet (tabSet t k v) j = tabGet t j := by
  induction t with
  | nil => simp [tabSet, tabGet, h]
  | cons x t ih =>
    obtain ⟨i, w⟩ := x
    unfold tabSet
    split
    · simp [tabGet, h]
    · split
      · subst_vars; simp [tabGet, h]
      · simp [tabGet, ih]

theorem tabGet_tabSet (t : Table α) (j k : Nat) (v : α) :
    tabGet (tabSet t k v) j = if j = k then some v else tabGet t j := by
  split
  · subst_vars; simp
  · exact tabGet_tabSet_other t v ‹_›

@[simp] theorem tabSet_tabSet (t : Table α) (k : Nat) (v w : α) : tabSet (tabSet t k v) k w = tabSet t k w := by
  induction t with
  | nil => simp [tabSet]
  | cons x t ih =>
    obtain ⟨j, u⟩ := x
    by_cases h1 : k < j
    · simp [tabSet, h1]
    · by_cases h2 : k = j
      · simp [tabSet, h2]
      · simp [tabSet, h1, h2, ih]

@[simp] theorem tabGet_tabErase_same (t : Table α) (k : Nat) : tabGet (tabErase t k) k = none := by
  induction t with
  | nil => rfl
  | cons x t ih =>
    obtain ⟨j, w⟩ := x
    unfold tabErase
    split
    · exact ih
    · simp [tabGet, *]

theorem tabGet_tabErase_other (t : Table α) {j k : Nat} (h : j ≠ k) : tabGet (tabErase t k) j = tabGet t j := by
  induction t with
  | nil => rfl
  | cons x t ih =>
    obtain ⟨i, w⟩ := x
    unfold tabErase
    split
    · subst_vars; simp [tabGet, h, ih]
    · simp [tabGet, ih]

theorem tabGet_tabErase (t : Table α) (j k : Nat) :
    tabGet (tabErase t k) j = if j = k then none else tabGet t j := by
  split
  · subst_vars; simp
  · exact tabGet_tabErase_other t ‹_›

theorem mem_of_tabGet {t : Table α} {k : Nat} {v : α} (h : tabGet t k = some v) : (k, v) ∈ t := by
  induction t with
  | nil => simp [tabGet] at h
  | cons x t ih =>
    obtain ⟨j, w⟩ := x
    unfold tabGet at h
    split at h
    · simp_all
    · exact List.mem_cons_of_mem _ (ih h)

theorem tabErase_eq_filter (t : Table α) (k : Nat) : tabErase t k = t.filter (fun x => x.1 != k) := by
  induction t with
  | nil => rfl
  | cons x t ih =>
    obtain ⟨j, w⟩ := x
    by_cases h : k = j
    · subst h; simp [tabErase, ih]
    · simp [tabErase, h, ih, Ne.symm h]

/-! ## The canonical form -/

/-- A table is canonical from `lo` on exactly when its numbers rise strictly and all lie above `lo`. -/
theorem tabRising_iff (t : Table α) (lo : Option Nat) :
    tabRising lo t = true ↔ t.Pairwise (fun x y => x.1 < y.1) ∧ ∀ x ∈ t, ∀ l ∈ lo, l < x.1 := by
  induction t generalizing lo with
  | nil => simp [tabRising]
  | cons x t ih =>
    obtain ⟨j, w⟩ := x
    unfold tabRising
    rw [Bool.and_eq_true, ih]
    cases lo with
    | none => simp [List.pairwise_cons]; tauto
    | some l =>
      simp only [decide_eq_true_eq, Option.mem_def, Option.some.injEq, forall_eq', List.pairwise_cons,
        List.mem_cons, forall_eq_or_imp, Prod.forall]
      constructor
      · rintro ⟨a, b, c⟩
        exact ⟨⟨c, b⟩, a, fun k v hk => lt_trans a (c k v hk)⟩
      · rintro ⟨⟨c, b⟩, a, -⟩
        exact ⟨a, b, c⟩

theorem tabWf_iff (t : Table α) : tabWf t = true ↔ t.Pairwise (fun x y => x.1 < y.1) := by
  simp [tabWf, tabRising_iff]

/-- In a canonical table every listed entry is the one its number has. -/
theorem tabGet_of_mem {t : Table α} (h : tabWf t = true) {k : Nat} {v : α} (m : (k, v) ∈ t) : tabGet t k = some v := by
  rw [tabWf_iff] at h
  induction t with
  | nil => simp at m
  | cons x t ih =>
    obtain ⟨j, w⟩ := x
    rw [List.pairwise_cons] at h
    unfold tabGet
    rcases List.mem_cons.1 m with e | m'
    · simp_all
    · have := h.1 _ m'
      have : k ≠ j := by simp only at this; omega
      simp [this, ih h.2 m']

theorem mem_iff_tabGet {t : Table α} (h : tabWf t = true) {k : Nat} {v : α} : (k, v) ∈ t ↔ tabGet t k = some v :=
  ⟨tabGet_of_mem h, mem_of_tabGet⟩

theorem mem_tabSet {t : Table α} {k : Nat} {v : α} {x : Nat × α} (m : x ∈ tabSet t k v) : x = (k, v) ∨ x ∈ t := by
  induction t with
  | nil => simpa [tabSet] using m
  | cons y t ih =>
    obtain ⟨j, w⟩ := y
    unfold tabSet at m
    split at m
    · simpa using m
    · split at m
      · rcases List.mem_cons.1 m with h | h
        · exact .inl h
        · exact .inr (List.mem_cons_of_mem _ h)
      · rcases List.mem_cons.1 m with h | h
        · exact .inr (by simp [h])
        · rcases ih h with h | h
          · exact .inl h
          · exact .inr (List.mem_cons_of_mem _ h)

/-- Writing an entry keeps the canonical form. -/
theorem tabWf_tabSet {t : Table α} (h : tabWf t = true) (k : Nat) (v : α) : tabWf (tabSet t k v) = true := by
  rw [tabWf_iff] at *
  induction t with
  | nil => simp [tabSet]
  | cons x t ih =>
    obtain ⟨j, w⟩ := x
    rw [List.pairwise_cons] at h
    unfold tabSet
    split
    · refine List.pairwise_cons.2 ⟨fun y m => ?_, List.pairwise_cons.2 h⟩
      rcases List.mem_cons.1 m with e | m'
      · simpa [e]
      · have := h.1 _ m'; simp only at this ⊢; omega
    · split
      · subst_vars; exact List.pairwise_cons.2 ⟨fun y m => h.1 y m, h.2⟩
      · refine List.pairwise_cons.2 ⟨fun y m => ?_, ih h.2⟩
        rcases mem_tabSet m with e | m'
        · subst e; simp only; omega
        · exact h.1 _ m'

/-- Removing an entry keeps the canonical form. -/
theorem tabWf_tabErase {t : Table α} (h : tabWf t = true) (k : Nat) : tabWf (tabErase t k) = true := by
  rw [tabWf_iff] at *
  rw [tabErase_eq_filter]
  exact h.sublist List.filter_sublist

/-- Two canonical tables with the same entries are the same table. -/
theorem tab_ext {t u : Table α} (ht : tabWf t = true) (hu : tabWf u = true) (h : ∀ k, tabGet t k = tabGet u k) :
    t = u := by
  rw [tabWf_iff] at ht hu
  have ss : ∀ x, x ∈ t ↔ x ∈ u := by
    rintro ⟨k, v⟩
    rw [mem_iff_tabGet ((tabWf_iff t).2 ht), mem_iff_tabGet ((tabWf_iff u).2 hu), h]
  have nt : t.Nodup := ht.imp (fun h e => by simp [e] at h)
  have nu : u.Nodup := hu.imp (fun h e => by simp [e] at h)
  exact ((List.perm_ext_iff_of_nodup nt nu).2 ss).eq_of_pairwise
    (fun a b _ _ h1 h2 => by omega) ht hu

/-- The lowest free number below `i + n`: it has no entry, and every number from `i` to it has one. -/
theorem tabLowestFree_spec {t : Table α} {n i k : Nat} (h : tabLowestFree t n i = some k) :
    i ≤ k ∧ k < i + n ∧ tabGet t k = none ∧ ∀ j, i ≤ j → j < k → (tabGet t j).isSome = true := by
  induction n generalizing i with
  | zero => simp [tabLowestFree] at h
  | succ n ih =>
    unfold tabLowestFree at h
    split at h
    · simp only [Option.some.injEq] at h
      subst h
      exact ⟨le_refl _, by omega, by simpa using ‹(tabGet t i).isNone = true›, fun j a b => by omega⟩
    · obtain ⟨a, b, c, d⟩ := ih h
      refine ⟨by omega, by omega, c, fun j p q => ?_⟩
      rcases Nat.lt_or_ge i j with r | r
      · exact d j r q
      · have : j = i := by omega
        subst this
        cases e : tabGet t j <;> simp_all

/-- No number from `i` on is free when none is found. -/
theorem tabLowestFree_none {t : Table α} {n i : Nat} (h : tabLowestFree t n i = none) :
    ∀ j, i ≤ j → j < i + n → (tabGet t j).isSome = true := by
  induction n generalizing i with
  | zero => intro j a b; omega
  | succ n ih =>
    unfold tabLowestFree at h
    split at h
    · simp at h
    · intro j a b
      rcases Nat.lt_or_ge i j with r | r
      · exact ih h j r (by omega)
      · have : j = i := by omega
        subst this
        cases e : tabGet t j <;> simp_all

end Sys2Proof.Machine
end

