-- ==== Sys2Proof/Laws/State.lean ====
section
/-! SUPPORT. The fields of State after each of its plain updates, one lemma per field and update, and the contexts and
records read after an update. -/
namespace Sys2Proof.Machine

/-! ## setCtx -/

@[simp] theorem setCtx_contexts (s : State) (i : Nat) (c : Context) :
    (setCtx s i c).contexts = tabSet s.contexts i c := rfl
@[simp] theorem setCtx_extentSize (s : State) (i : Nat) (c : Context) :
    (setCtx s i c).extentSize = s.extentSize := rfl
@[simp] theorem setCtx_lowMark (s : State) (i : Nat) (c : Context) : (setCtx s i c).lowMark = s.lowMark := rfl
@[simp] theorem setCtx_freeSlots (s : State) (i : Nat) (c : Context) : (setCtx s i c).freeSlots = s.freeSlots := rfl
@[simp] theorem setCtx_gens (s : State) (i : Nat) (c : Context) : (setCtx s i c).gens = s.gens := rfl
@[simp] theorem setCtx_extents (s : State) (i : Nat) (c : Context) : (setCtx s i c).extents = s.extents := rfl
@[simp] theorem setCtx_mem (s : State) (i : Nat) (c : Context) : (setCtx s i c).mem = s.mem := rfl
@[simp] theorem setCtx_inputQueue (s : State) (i : Nat) (c : Context) :
    (setCtx s i c).inputQueue = s.inputQueue := rfl
@[simp] theorem setCtx_disposition (s : State) (i : Nat) (c : Context) :
    (setCtx s i c).disposition = s.disposition := rfl
@[simp] theorem setCtx_commands (s : State) (i : Nat) (c : Context) : (setCtx s i c).commands = s.commands := rfl
@[simp] theorem setCtx_overrun (s : State) (i : Nat) (c : Context) : (setCtx s i c).overrun = s.overrun := rfl
@[simp] theorem setCtx_responses (s : State) (i : Nat) (c : Context) : (setCtx s i c).responses = s.responses := rfl
@[simp] theorem setCtx_ready (s : State) (i : Nat) (c : Context) : (setCtx s i c).ready = s.ready := rfl
@[simp] theorem setCtx_hold (s : State) (i : Nat) (c : Context) : (setCtx s i c).hold = s.hold := rfl
@[simp] theorem setCtx_params (s : State) (i : Nat) (c : Context) : (setCtx s i c).params = s.params := rfl
@[simp] theorem setCtx_claims (s : State) (i : Nat) (c : Context) : (setCtx s i c).claims = s.claims := rfl
@[simp] theorem setCtx_storeLimit (s : State) (i : Nat) (c : Context) :
    (setCtx s i c).storeLimit = s.storeLimit := rfl
@[simp] theorem setCtx_cursor (s : State) (i : Nat) (c : Context) : (setCtx s i c).cursor = s.cursor := rfl
@[simp] theorem setCtx_drainAnswer (s : State) (i : Nat) (c : Context) :
    (setCtx s i c).drainAnswer = s.drainAnswer := rfl
@[simp] theorem setCtx_defaultA (s : State) (i : Nat) (c : Context) : (setCtx s i c).defaultA = s.defaultA := rfl
@[simp] theorem setCtx_defaultB (s : State) (i : Nat) (c : Context) : (setCtx s i c).defaultB = s.defaultB := rfl
@[simp] theorem setCtx_priority (s : State) (i : Nat) (c : Context) : (setCtx s i c).priority = s.priority := rfl
@[simp] theorem setCtx_masked (s : State) (i : Nat) (c : Context) : (setCtx s i c).masked = s.masked := rfl
@[simp] theorem setCtx_inService (s : State) (i : Nat) (c : Context) : (setCtx s i c).inService = s.inService := rfl
@[simp] theorem setCtx_threshold (s : State) (i : Nat) (c : Context) : (setCtx s i c).threshold = s.threshold := rfl
@[simp] theorem setCtx_links (s : State) (i : Nat) (c : Context) : (setCtx s i c).links = s.links := rfl
@[simp] theorem setCtx_copy (s : State) (i : Nat) (c : Context) : (setCtx s i c).copy = s.copy := rfl
@[simp] theorem setCtx_area (s : State) (i : Nat) (c : Context) : (setCtx s i c).area = s.area := rfl
@[simp] theorem setCtx_unread (s : State) (i : Nat) (c : Context) : (setCtx s i c).unread = s.unread := rfl
@[simp] theorem setCtx_segmentOut (s : State) (i : Nat) (c : Context) :
    (setCtx s i c).segmentOut = s.segmentOut := rfl
@[simp] theorem setCtx_controlOut (s : State) (i : Nat) (c : Context) :
    (setCtx s i c).controlOut = s.controlOut := rfl
@[simp] theorem setCtx_drainOut (s : State) (i : Nat) (c : Context) : (setCtx s i c).drainOut = s.drainOut := rfl
@[simp] theorem setCtx_pending (s : State) (i : Nat) (c : Context) : (setCtx s i c).pending = s.pending := rfl

/-! ## setExtent -/

@[simp] theorem setExtent_contexts (s : State) (slot : Nat) (r : Extent) :
    (setExtent s slot r).contexts = s.contexts := rfl
@[simp] theorem setExtent_extentSize (s : State) (slot : Nat) (r : Extent) :
    (setExtent s slot r).extentSize = s.extentSize := rfl
@[simp] theorem setExtent_lowMark (s : State) (slot : Nat) (r : Extent) :
    (setExtent s slot r).lowMark = s.lowMark := rfl
@[simp] theorem setExtent_freeSlots (s : State) (slot : Nat) (r : Extent) :
    (setExtent s slot r).freeSlots = s.freeSlots := rfl
@[simp] theorem setExtent_gens (s : State) (slot : Nat) (r : Extent) : (setExtent s slot r).gens = s.gens := rfl
@[simp] theorem setExtent_extents (s : State) (slot : Nat) (r : Extent) :
    (setExtent s slot r).extents = tabSet s.extents slot r := rfl
@[simp] theorem setExtent_mem (s : State) (slot : Nat) (r : Extent) : (setExtent s slot r).mem = s.mem := rfl
@[simp] theorem setExtent_inputQueue (s : State) (slot : Nat) (r : Extent) :
    (setExtent s slot r).inputQueue = s.inputQueue := rfl
@[simp] theorem setExtent_disposition (s : State) (slot : Nat) (r : Extent) :
    (setExtent s slot r).disposition = s.disposition := rfl
@[simp] theorem setExtent_commands (s : State) (slot : Nat) (r : Extent) :
    (setExtent s slot r).commands = s.commands := rfl
@[simp] theorem setExtent_overrun (s : State) (slot : Nat) (r : Extent) :
    (setExtent s slot r).overrun = s.overrun := rfl
@[simp] theorem setExtent_responses (s : State) (slot : Nat) (r : Extent) :
    (setExtent s slot r).responses = s.responses := rfl
@[simp] theorem setExtent_ready (s : State) (slot : Nat) (r : Extent) : (setExtent s slot r).ready = s.ready := rfl
@[simp] theorem setExtent_hold (s : State) (slot : Nat) (r : Extent) : (setExtent s slot r).hold = s.hold := rfl
@[simp] theorem setExtent_params (s : State) (slot : Nat) (r : Extent) : (setExtent s slot r).params = s.params := rfl
@[simp] theorem setExtent_claims (s : State) (slot : Nat) (r : Extent) : (setExtent s slot r).claims = s.claims := rfl
@[simp] theorem setExtent_storeLimit (s : State) (slot : Nat) (r : Extent) :
    (setExtent s slot r).storeLimit = s.storeLimit := rfl
@[simp] theorem setExtent_cursor (s : State) (slot : Nat) (r : Extent) : (setExtent s slot r).cursor = s.cursor := rfl
@[simp] theorem setExtent_drainAnswer (s : State) (slot : Nat) (r : Extent) :
    (setExtent s slot r).drainAnswer = s.drainAnswer := rfl
@[simp] theorem setExtent_defaultA (s : State) (slot : Nat) (r : Extent) :
    (setExtent s slot r).defaultA = s.defaultA := rfl
@[simp] theorem setExtent_defaultB (s : State) (slot : Nat) (r : Extent) :
    (setExtent s slot r).defaultB = s.defaultB := rfl
@[simp] theorem setExtent_priority (s : State) (slot : Nat) (r : Extent) :
    (setExtent s slot r).priority = s.priority := rfl
@[simp] theorem setExtent_masked (s : State) (slot : Nat) (r : Extent) : (setExtent s slot r).masked = s.masked := rfl
@[simp] theorem setExtent_inService (s : State) (slot : Nat) (r : Extent) :
    (setExtent s slot r).inService = s.inService := rfl
@[simp] theorem setExtent_threshold (s : State) (slot : Nat) (r : Extent) :
    (setExtent s slot r).threshold = s.threshold := rfl
@[simp] theorem setExtent_links (s : State) (slot : Nat) (r : Extent) : (setExtent s slot r).links = s.links := rfl
@[simp] theorem setExtent_copy (s : State) (slot : Nat) (r : Extent) : (setExtent s slot r).copy = s.copy := rfl
@[simp] theorem setExtent_area (s : State) (slot : Nat) (r : Extent) : (setExtent s slot r).area = s.area := rfl
@[simp] theorem setExtent_unread (s : State) (slot : Nat) (r : Extent) : (setExtent s slot r).unread = s.unread := rfl
@[simp] theorem setExtent_segmentOut (s : State) (slot : Nat) (r : Extent) :
    (setExtent s slot r).segmentOut = s.segmentOut := rfl
@[simp] theorem setExtent_controlOut (s : State) (slot : Nat) (r : Extent) :
    (setExtent s slot r).controlOut = s.controlOut := rfl
@[simp] theorem setExtent_drainOut (s : State) (slot : Nat) (r : Extent) :
    (setExtent s slot r).drainOut = s.drainOut := rfl
@[simp] theorem setExtent_pending (s : State) (slot : Nat) (r : Extent) :
    (setExtent s slot r).pending = s.pending := rfl

/-! ## countLink -/

@[simp] theorem countLink_contexts (s : State) (l : Fin 4) (f : LinkCounters → LinkCounters) :
    (countLink s l f).contexts = s.contexts := rfl
@[simp] theorem countLink_extentSize (s : State) (l : Fin 4) (f : LinkCounters → LinkCounters) :
    (countLink s l f).extentSize = s.extentSize := rfl
@[simp] theorem countLink_lowMark (s : State) (l : Fin 4) (f : LinkCounters → LinkCounters) :
    (countLink s l f).lowMark = s.lowMark := rfl
@[simp] theorem countLink_freeSlots (s : State) (l : Fin 4) (f : LinkCounters → LinkCounters) :
    (countLink s l f).freeSlots = s.freeSlots := rfl
@[simp] theorem countLink_gens (s : State) (l : Fin 4) (f : LinkCounters → LinkCounters) :
    (countLink s l f).gens = s.gens := rfl
@[simp] theorem countLink_extents (s : State) (l : Fin 4) (f : LinkCounters → LinkCounters) :
    (countLink s l f).extents = s.extents := rfl
@[simp] theorem countLink_mem (s : State) (l : Fin 4) (f : LinkCounters → LinkCounters) :
    (countLink s l f).mem = s.mem := rfl
@[simp] theorem countLink_inputQueue (s : State) (l : Fin 4) (f : LinkCounters → LinkCounters) :
    (countLink s l f).inputQueue = s.inputQueue := rfl
@[simp] theorem countLink_disposition (s : State) (l : Fin 4) (f : LinkCounters → LinkCounters) :
    (countLink s l f).disposition = s.disposition := rfl
@[simp] theorem countLink_commands (s : State) (l : Fin 4) (f : LinkCounters → LinkCounters) :
    (countLink s l f).commands = s.commands := rfl
@[simp] theorem countLink_overrun (s : State) (l : Fin 4) (f : LinkCounters → LinkCounters) :
    (countLink s l f).overrun = s.overrun := rfl
@[simp] theorem countLink_responses (s : State) (l : Fin 4) (f : LinkCounters → LinkCounters) :
    (countLink s l f).responses = s.responses := rfl
@[simp] theorem countLink_ready (s : State) (l : Fin 4) (f : LinkCounters → LinkCounters) :
    (countLink s l f).ready = s.ready := rfl
@[simp] theorem countLink_hold (s : State) (l : Fin 4) (f : LinkCounters → LinkCounters) :
    (countLink s l f).hold = s.hold := rfl
@[simp] theorem countLink_params (s : State) (l : Fin 4) (f : LinkCounters → LinkCounters) :
    (countLink s l f).params = s.params := rfl
@[simp] theorem countLink_claims (s : State) (l : Fin 4) (f : LinkCounters → LinkCounters) :
    (countLink s l f).claims = s.claims := rfl
@[simp] theorem countLink_storeLimit (s : State) (l : Fin 4) (f : LinkCounters → LinkCounters) :
    (countLink s l f).storeLimit = s.storeLimit := rfl
@[simp] theorem countLink_cursor (s : State) (l : Fin 4) (f : LinkCounters → LinkCounters) :
    (countLink s l f).cursor = s.cursor := rfl
@[simp] theorem countLink_drainAnswer (s : State) (l : Fin 4) (f : LinkCounters → LinkCounters) :
    (countLink s l f).drainAnswer = s.drainAnswer := rfl
@[simp] theorem countLink_defaultA (s : State) (l : Fin 4) (f : LinkCounters → LinkCounters) :
    (countLink s l f).defaultA = s.defaultA := rfl
@[simp] theorem countLink_defaultB (s : State) (l : Fin 4) (f : LinkCounters → LinkCounters) :
    (countLink s l f).defaultB = s.defaultB := rfl
@[simp] theorem countLink_priority (s : State) (l : Fin 4) (f : LinkCounters → LinkCounters) :
    (countLink s l f).priority = s.priority := rfl
@[simp] theorem countLink_masked (s : State) (l : Fin 4) (f : LinkCounters → LinkCounters) :
    (countLink s l f).masked = s.masked := rfl
@[simp] theorem countLink_inService (s : State) (l : Fin 4) (f : LinkCounters → LinkCounters) :
    (countLink s l f).inService = s.inService := rfl
@[simp] theorem countLink_threshold (s : State) (l : Fin 4) (f : LinkCounters → LinkCounters) :
    (countLink s l f).threshold = s.threshold := rfl
@[simp] theorem countLink_links (s : State) (l : Fin 4) (f : LinkCounters → LinkCounters) :
    (countLink s l f).links = s.links.set l (f s.links[l]) := rfl
@[simp] theorem countLink_copy (s : State) (l : Fin 4) (f : LinkCounters → LinkCounters) :
    (countLink s l f).copy = s.copy := rfl
@[simp] theorem countLink_area (s : State) (l : Fin 4) (f : LinkCounters → LinkCounters) :
    (countLink s l f).area = s.area := rfl
@[simp] theorem countLink_unread (s : State) (l : Fin 4) (f : LinkCounters → LinkCounters) :
    (countLink s l f).unread = s.unread := rfl
@[simp] theorem countLink_segmentOut (s : State) (l : Fin 4) (f : LinkCounters → LinkCounters) :
    (countLink s l f).segmentOut = s.segmentOut := rfl
@[simp] theorem countLink_controlOut (s : State) (l : Fin 4) (f : LinkCounters → LinkCounters) :
    (countLink s l f).controlOut = s.controlOut := rfl
@[simp] theorem countLink_drainOut (s : State) (l : Fin 4) (f : LinkCounters → LinkCounters) :
    (countLink s l f).drainOut = s.drainOut := rfl
@[simp] theorem countLink_pending (s : State) (l : Fin 4) (f : LinkCounters → LinkCounters) :
    (countLink s l f).pending = s.pending := rfl

/-! ## answerMapped -/

@[simp] theorem answerMapped_contexts (s : State) (i : Nat) (tag : Word) (code : DispCode) (n : Nat) :
    (answerMapped s i tag code n).contexts = s.contexts := rfl
@[simp] theorem answerMapped_extentSize (s : State) (i : Nat) (tag : Word) (code : DispCode) (n : Nat) :
    (answerMapped s i tag code n).extentSize = s.extentSize := rfl
@[simp] theorem answerMapped_lowMark (s : State) (i : Nat) (tag : Word) (code : DispCode) (n : Nat) :
    (answerMapped s i tag code n).lowMark = s.lowMark := rfl
@[simp] theorem answerMapped_freeSlots (s : State) (i : Nat) (tag : Word) (code : DispCode) (n : Nat) :
    (answerMapped s i tag code n).freeSlots = s.freeSlots := rfl
@[simp] theorem answerMapped_gens (s : State) (i : Nat) (tag : Word) (code : DispCode) (n : Nat) :
    (answerMapped s i tag code n).gens = s.gens := rfl
@[simp] theorem answerMapped_extents (s : State) (i : Nat) (tag : Word) (code : DispCode) (n : Nat) :
    (answerMapped s i tag code n).extents = s.extents := rfl
@[simp] theorem answerMapped_mem (s : State) (i : Nat) (tag : Word) (code : DispCode) (n : Nat) :
    (answerMapped s i tag code n).mem = s.mem := rfl
@[simp] theorem answerMapped_inputQueue (s : State) (i : Nat) (tag : Word) (code : DispCode) (n : Nat) :
    (answerMapped s i tag code n).inputQueue = s.inputQueue := rfl
@[simp] theorem answerMapped_disposition (s : State) (i : Nat) (tag : Word) (code : DispCode) (n : Nat) :
    (answerMapped s i tag code n).disposition = some { code := code, tag := tag, newBytes := n, hole := firstHoleOf s i } := rfl
@[simp] theorem answerMapped_commands (s : State) (i : Nat) (tag : Word) (code : DispCode) (n : Nat) :
    (answerMapped s i tag code n).commands = s.commands := rfl
@[simp] theorem answerMapped_overrun (s : State) (i : Nat) (tag : Word) (code : DispCode) (n : Nat) :
    (answerMapped s i tag code n).overrun = s.overrun := rfl
@[simp] theorem answerMapped_responses (s : State) (i : Nat) (tag : Word) (code : DispCode) (n : Nat) :
    (answerMapped s i tag code n).responses = s.responses := rfl
@[simp] theorem answerMapped_ready (s : State) (i : Nat) (tag : Word) (code : DispCode) (n : Nat) :
    (answerMapped s i tag code n).ready = s.ready := rfl
@[simp] theorem answerMapped_hold (s : State) (i : Nat) (tag : Word) (code : DispCode) (n : Nat) :
    (answerMapped s i tag code n).hold = s.hold := rfl
@[simp] theorem answerMapped_params (s : State) (i : Nat) (tag : Word) (code : DispCode) (n : Nat) :
    (answerMapped s i tag code n).params = s.params := rfl
@[simp] theorem answerMapped_claims (s : State) (i : Nat) (tag : Word) (code : DispCode) (n : Nat) :
    (answerMapped s i tag code n).claims = s.claims := rfl
@[simp] theorem answerMapped_storeLimit (s : State) (i : Nat) (tag : Word) (code : DispCode) (n : Nat) :
    (answerMapped s i tag code n).storeLimit = s.storeLimit := rfl
@[simp] theorem answerMapped_cursor (s : State) (i : Nat) (tag : Word) (code : DispCode) (n : Nat) :
    (answerMapped s i tag code n).cursor = s.cursor := rfl
@[simp] theorem answerMapped_drainAnswer (s : State) (i : Nat) (tag : Word) (code : DispCode) (n : Nat) :
    (answerMapped s i tag code n).drainAnswer = s.drainAnswer := rfl
@[simp] theorem answerMapped_defaultA (s : State) (i : Nat) (tag : Word) (code : DispCode) (n : Nat) :
    (answerMapped s i tag code n).defaultA = s.defaultA := rfl
@[simp] theorem answerMapped_defaultB (s : State) (i : Nat) (tag : Word) (code : DispCode) (n : Nat) :
    (answerMapped s i tag code n).defaultB = s.defaultB := rfl
@[simp] theorem answerMapped_priority (s : State) (i : Nat) (tag : Word) (code : DispCode) (n : Nat) :
    (answerMapped s i tag code n).priority = s.priority := rfl
@[simp] theorem answerMapped_masked (s : State) (i : Nat) (tag : Word) (code : DispCode) (n : Nat) :
    (answerMapped s i tag code n).masked = s.masked := rfl
@[simp] theorem answerMapped_inService (s : State) (i : Nat) (tag : Word) (code : DispCode) (n : Nat) :
    (answerMapped s i tag code n).inService = s.inService := rfl
@[simp] theorem answerMapped_threshold (s : State) (i : Nat) (tag : Word) (code : DispCode) (n : Nat) :
    (answerMapped s i tag code n).threshold = s.threshold := rfl
@[simp] theorem answerMapped_links (s : State) (i : Nat) (tag : Word) (code : DispCode) (n : Nat) :
    (answerMapped s i tag code n).links = s.links := rfl
@[simp] theorem answerMapped_copy (s : State) (i : Nat) (tag : Word) (code : DispCode) (n : Nat) :
    (answerMapped s i tag code n).copy = s.copy := rfl
@[simp] theorem answerMapped_area (s : State) (i : Nat) (tag : Word) (code : DispCode) (n : Nat) :
    (answerMapped s i tag code n).area = s.area := rfl
@[simp] theorem answerMapped_unread (s : State) (i : Nat) (tag : Word) (code : DispCode) (n : Nat) :
    (answerMapped s i tag code n).unread = s.unread := rfl
@[simp] theorem answerMapped_segmentOut (s : State) (i : Nat) (tag : Word) (code : DispCode) (n : Nat) :
    (answerMapped s i tag code n).segmentOut = s.segmentOut := rfl
@[simp] theorem answerMapped_controlOut (s : State) (i : Nat) (tag : Word) (code : DispCode) (n : Nat) :
    (answerMapped s i tag code n).controlOut = s.controlOut := rfl
@[simp] theorem answerMapped_drainOut (s : State) (i : Nat) (tag : Word) (code : DispCode) (n : Nat) :
    (answerMapped s i tag code n).drainOut = s.drainOut := rfl
@[simp] theorem answerMapped_pending (s : State) (i : Nat) (tag : Word) (code : DispCode) (n : Nat) :
    (answerMapped s i tag code n).pending = s.pending := rfl

/-! ## answer -/

@[simp] theorem answer_contexts (s : State) (c : CommandRecord) (st : Status) (l : List Word) :
    (answer s c st l).contexts = s.contexts := rfl
@[simp] theorem answer_extentSize (s : State) (c : CommandRecord) (st : Status) (l : List Word) :
    (answer s c st l).extentSize = s.extentSize := rfl
@[simp] theorem answer_lowMark (s : State) (c : CommandRecord) (st : Status) (l : List Word) :
    (answer s c st l).lowMark = s.lowMark := rfl
@[simp] theorem answer_freeSlots (s : State) (c : CommandRecord) (st : Status) (l : List Word) :
    (answer s c st l).freeSlots = s.freeSlots := rfl
@[simp] theorem answer_gens (s : State) (c : CommandRecord) (st : Status) (l : List Word) :
    (answer s c st l).gens = s.gens := rfl
@[simp] theorem answer_extents (s : State) (c : CommandRecord) (st : Status) (l : List Word) :
    (answer s c st l).extents = s.extents := rfl
@[simp] theorem answer_mem (s : State) (c : CommandRecord) (st : Status) (l : List Word) :
    (answer s c st l).mem = s.mem := rfl
@[simp] theorem answer_inputQueue (s : State) (c : CommandRecord) (st : Status) (l : List Word) :
    (answer s c st l).inputQueue = s.inputQueue := rfl
@[simp] theorem answer_disposition (s : State) (c : CommandRecord) (st : Status) (l : List Word) :
    (answer s c st l).disposition = s.disposition := rfl
@[simp] theorem answer_commands (s : State) (c : CommandRecord) (st : Status) (l : List Word) :
    (answer s c st l).commands = s.commands.tail := rfl
@[simp] theorem answer_overrun (s : State) (c : CommandRecord) (st : Status) (l : List Word) :
    (answer s c st l).overrun = s.overrun := rfl
@[simp] theorem answer_responses (s : State) (c : CommandRecord) (st : Status) (l : List Word) :
    (answer s c st l).responses = s.responses ++ [{ tag := c.tag, status := st, results := l }] := rfl
@[simp] theorem answer_ready (s : State) (c : CommandRecord) (st : Status) (l : List Word) :
    (answer s c st l).ready = s.ready := rfl
@[simp] theorem answer_hold (s : State) (c : CommandRecord) (st : Status) (l : List Word) :
    (answer s c st l).hold = s.hold := rfl
@[simp] theorem answer_params (s : State) (c : CommandRecord) (st : Status) (l : List Word) :
    (answer s c st l).params = s.params := rfl
@[simp] theorem answer_claims (s : State) (c : CommandRecord) (st : Status) (l : List Word) :
    (answer s c st l).claims = s.claims := rfl
@[simp] theorem answer_storeLimit (s : State) (c : CommandRecord) (st : Status) (l : List Word) :
    (answer s c st l).storeLimit = s.storeLimit := rfl
@[simp] theorem answer_cursor (s : State) (c : CommandRecord) (st : Status) (l : List Word) :
    (answer s c st l).cursor = s.cursor := rfl
@[simp] theorem answer_drainAnswer (s : State) (c : CommandRecord) (st : Status) (l : List Word) :
    (answer s c st l).drainAnswer = s.drainAnswer := rfl
@[simp] theorem answer_defaultA (s : State) (c : CommandRecord) (st : Status) (l : List Word) :
    (answer s c st l).defaultA = s.defaultA := rfl
@[simp] theorem answer_defaultB (s : State) (c : CommandRecord) (st : Status) (l : List Word) :
    (answer s c st l).defaultB = s.defaultB := rfl
@[simp] theorem answer_priority (s : State) (c : CommandRecord) (st : Status) (l : List Word) :
    (answer s c st l).priority = s.priority := rfl
@[simp] theorem answer_masked (s : State) (c : CommandRecord) (st : Status) (l : List Word) :
    (answer s c st l).masked = s.masked := rfl
@[simp] theorem answer_inService (s : State) (c : CommandRecord) (st : Status) (l : List Word) :
    (answer s c st l).inService = s.inService := rfl
@[simp] theorem answer_threshold (s : State) (c : CommandRecord) (st : Status) (l : List Word) :
    (answer s c st l).threshold = s.threshold := rfl
@[simp] theorem answer_links (s : State) (c : CommandRecord) (st : Status) (l : List Word) :
    (answer s c st l).links = s.links := rfl
@[simp] theorem answer_copy (s : State) (c : CommandRecord) (st : Status) (l : List Word) :
    (answer s c st l).copy = s.copy := rfl
@[simp] theorem answer_area (s : State) (c : CommandRecord) (st : Status) (l : List Word) :
    (answer s c st l).area = s.area := rfl
@[simp] theorem answer_unread (s : State) (c : CommandRecord) (st : Status) (l : List Word) :
    (answer s c st l).unread = s.unread := rfl
@[simp] theorem answer_segmentOut (s : State) (c : CommandRecord) (st : Status) (l : List Word) :
    (answer s c st l).segmentOut = s.segmentOut := rfl
@[simp] theorem answer_controlOut (s : State) (c : CommandRecord) (st : Status) (l : List Word) :
    (answer s c st l).controlOut = s.controlOut := rfl
@[simp] theorem answer_drainOut (s : State) (c : CommandRecord) (st : Status) (l : List Word) :
    (answer s c st l).drainOut = s.drainOut := rfl
@[simp] theorem answer_pending (s : State) (c : CommandRecord) (st : Status) (l : List Word) :
    (answer s c st l).pending = s.pending := rfl

/-! ## Contexts and records after an update -/

@[simp] theorem ctxOf_setCtx_same (s : State) (i : Nat) (c : Context) : ctxOf (setCtx s i c) i = some c := by
  simp [ctxOf]

theorem ctxOf_setCtx_other (s : State) {i j : Nat} (c : Context) (h : j ≠ i) :
    ctxOf (setCtx s i c) j = ctxOf s j := by
  simp [ctxOf, tabGet_tabSet_other _ _ h]

theorem ctxOf_setCtx (s : State) (i j : Nat) (c : Context) :
    ctxOf (setCtx s i c) j = if j = i then some c else ctxOf s j := by
  simp [ctxOf, tabGet_tabSet]

@[simp] theorem ctxOf_setExtent (s : State) (slot : Nat) (r : Extent) (i : Nat) :
    ctxOf (setExtent s slot r) i = ctxOf s i := rfl

@[simp] theorem setCtx_setCtx (s : State) (i : Nat) (c d : Context) : setCtx (setCtx s i c) i d = setCtx s i d := by
  simp [setCtx]

@[simp] theorem setExtent_setExtent (s : State) (slot : Nat) (r t : Extent) :
    setExtent (setExtent s slot r) slot t = setExtent s slot t := by
  simp [setExtent]

theorem setCtx_setExtent (s : State) (i slot : Nat) (c : Context) (r : Extent) :
    setCtx (setExtent s slot r) i c = setExtent (setCtx s i c) slot r := rfl

theorem modCtx_of_some {s : State} {i : Nat} {c : Context} (h : ctxOf s i = some c) (f : Context → Context) :
    modCtx s i f = setCtx s i (f c) := by
  simp [modCtx, h]

theorem modCtx_of_none {s : State} {i : Nat} (h : ctxOf s i = none) (f : Context → Context) : modCtx s i f = s := by
  simp [modCtx, h]

/-- What `modCtx` leaves: every context but that of its index, and of that one what its function makes. -/
theorem ctxOf_modCtx (s : State) (i j : Nat) (f : Context → Context) :
    ctxOf (modCtx s i f) j = if j = i then (ctxOf s i).map f else ctxOf s j := by
  unfold modCtx
  split
  · split
    · subst_vars; simp [*]
    · rfl
  · simp [ctxOf_setCtx, *]

theorem modCtx_eq (s : State) (i : Nat) (f : Context → Context) :
    modCtx s i f = { s with contexts := (modCtx s i f).contexts } := by
  unfold modCtx; split <;> rfl

@[simp] theorem modCtx_extentSize (s : State) (i : Nat) (f : Context → Context) : (modCtx s i f).extentSize = s.extentSize := by
  rw [modCtx_eq]
@[simp] theorem modCtx_lowMark (s : State) (i : Nat) (f : Context → Context) : (modCtx s i f).lowMark = s.lowMark := by
  rw [modCtx_eq]
@[simp] theorem modCtx_freeSlots (s : State) (i : Nat) (f : Context → Context) : (modCtx s i f).freeSlots = s.freeSlots := by
  rw [modCtx_eq]
@[simp] theorem modCtx_gens (s : State) (i : Nat) (f : Context → Context) : (modCtx s i f).gens = s.gens := by
  rw [modCtx_eq]
@[simp] theorem modCtx_extents (s : State) (i : Nat) (f : Context → Context) : (modCtx s i f).extents = s.extents := by
  rw [modCtx_eq]
@[simp] theorem modCtx_mem (s : State) (i : Nat) (f : Context → Context) : (modCtx s i f).mem = s.mem := by
  rw [modCtx_eq]
@[simp] theorem modCtx_inputQueue (s : State) (i : Nat) (f : Context → Context) : (modCtx s i f).inputQueue = s.inputQueue := by
  rw [modCtx_eq]
@[simp] theorem modCtx_disposition (s : State) (i : Nat) (f : Context → Context) : (modCtx s i f).disposition = s.disposition := by
  rw [modCtx_eq]
@[simp] theorem modCtx_commands (s : State) (i : Nat) (f : Context → Context) : (modCtx s i f).commands = s.commands := by
  rw [modCtx_eq]
@[simp] theorem modCtx_overrun (s : State) (i : Nat) (f : Context → Context) : (modCtx s i f).overrun = s.overrun := by
  rw [modCtx_eq]
@[simp] theorem modCtx_responses (s : State) (i : Nat) (f : Context → Context) : (modCtx s i f).responses = s.responses := by
  rw [modCtx_eq]
@[simp] theorem modCtx_ready (s : State) (i : Nat) (f : Context → Context) : (modCtx s i f).ready = s.ready := by
  rw [modCtx_eq]
@[simp] theorem modCtx_hold (s : State) (i : Nat) (f : Context → Context) : (modCtx s i f).hold = s.hold := by
  rw [modCtx_eq]
@[simp] theorem modCtx_params (s : State) (i : Nat) (f : Context → Context) : (modCtx s i f).params = s.params := by
  rw [modCtx_eq]
@[simp] theorem modCtx_claims (s : State) (i : Nat) (f : Context → Context) : (modCtx s i f).claims = s.claims := by
  rw [modCtx_eq]
@[simp] theorem modCtx_storeLimit (s : State) (i : Nat) (f : Context → Context) : (modCtx s i f).storeLimit = s.storeLimit := by
  rw [modCtx_eq]
@[simp] theorem modCtx_cursor (s : State) (i : Nat) (f : Context → Context) : (modCtx s i f).cursor = s.cursor := by
  rw [modCtx_eq]
@[simp] theorem modCtx_drainAnswer (s : State) (i : Nat) (f : Context → Context) : (modCtx s i f).drainAnswer = s.drainAnswer := by
  rw [modCtx_eq]
@[simp] theorem modCtx_defaultA (s : State) (i : Nat) (f : Context → Context) : (modCtx s i f).defaultA = s.defaultA := by
  rw [modCtx_eq]
@[simp] theorem modCtx_defaultB (s : State) (i : Nat) (f : Context → Context) : (modCtx s i f).defaultB = s.defaultB := by
  rw [modCtx_eq]
@[simp] theorem modCtx_priority (s : State) (i : Nat) (f : Context → Context) : (modCtx s i f).priority = s.priority := by
  rw [modCtx_eq]
@[simp] theorem modCtx_masked (s : State) (i : Nat) (f : Context → Context) : (modCtx s i f).masked = s.masked := by
  rw [modCtx_eq]
@[simp] theorem modCtx_inService (s : State) (i : Nat) (f : Context → Context) : (modCtx s i f).inService = s.inService := by
  rw [modCtx_eq]
@[simp] theorem modCtx_threshold (s : State) (i : Nat) (f : Context → Context) : (modCtx s i f).threshold = s.threshold := by
  rw [modCtx_eq]
@[simp] theorem modCtx_links (s : State) (i : Nat) (f : Context → Context) : (modCtx s i f).links = s.links := by
  rw [modCtx_eq]
@[simp] theorem modCtx_copy (s : State) (i : Nat) (f : Context → Context) : (modCtx s i f).copy = s.copy := by
  rw [modCtx_eq]
@[simp] theorem modCtx_area (s : State) (i : Nat) (f : Context → Context) : (modCtx s i f).area = s.area := by
  rw [modCtx_eq]
@[simp] theorem modCtx_unread (s : State) (i : Nat) (f : Context → Context) : (modCtx s i f).unread = s.unread := by
  rw [modCtx_eq]
@[simp] theorem modCtx_segmentOut (s : State) (i : Nat) (f : Context → Context) : (modCtx s i f).segmentOut = s.segmentOut := by
  rw [modCtx_eq]
@[simp] theorem modCtx_controlOut (s : State) (i : Nat) (f : Context → Context) : (modCtx s i f).controlOut = s.controlOut := by
  rw [modCtx_eq]
@[simp] theorem modCtx_drainOut (s : State) (i : Nat) (f : Context → Context) : (modCtx s i f).drainOut = s.drainOut := by
  rw [modCtx_eq]
@[simp] theorem modCtx_pending (s : State) (i : Nat) (f : Context → Context) : (modCtx s i f).pending = s.pending := by
  rw [modCtx_eq]

end Sys2Proof.Machine
end

