-- ==== Sys2Proof/Laws/Frames.lean ====
section
/-! SUPPORT. What the shared operations of Ops.lean leave alone: all of them act on the held work only, that is on the
contexts, the extent table, the free-slot list, the generations, the ready queues, the claim table and the holds. -/
namespace Sys2Proof.Machine

/-- State `t` differs from `s` in the held work only. -/
def HeldWork (s t : State) : Prop :=
  t = { s with
        contexts := t.contexts
        extents := t.extents
        freeSlots := t.freeSlots
        gens := t.gens
        ready := t.ready
        hold := t.hold
        claims := t.claims }

namespace HeldWork

theorem refl (s : State) : HeldWork s s := rfl

theorem trans {s t u : State} (h : HeldWork s t) (k : HeldWork t u) : HeldWork s u := by
  unfold HeldWork at *
  rw [h] at k
  exact k

variable {s t : State} (h : HeldWork s t)
include h

theorem mem : t.mem = s.mem := by rw [h]
theorem extentSize : t.extentSize = s.extentSize := by rw [h]
theorem lowMark : t.lowMark = s.lowMark := by rw [h]
theorem inputQueue : t.inputQueue = s.inputQueue := by rw [h]
theorem disposition : t.disposition = s.disposition := by rw [h]
theorem commands : t.commands = s.commands := by rw [h]
theorem overrun : t.overrun = s.overrun := by rw [h]
theorem responses : t.responses = s.responses := by rw [h]
theorem params : t.params = s.params := by rw [h]
theorem storeLimit : t.storeLimit = s.storeLimit := by rw [h]
theorem cursor : t.cursor = s.cursor := by rw [h]
theorem drainAnswer : t.drainAnswer = s.drainAnswer := by rw [h]
theorem defaultA : t.defaultA = s.defaultA := by rw [h]
theorem defaultB : t.defaultB = s.defaultB := by rw [h]
theorem priority : t.priority = s.priority := by rw [h]
theorem masked : t.masked = s.masked := by rw [h]
theorem inService : t.inService = s.inService := by rw [h]
theorem threshold : t.threshold = s.threshold := by rw [h]
theorem links : t.links = s.links := by rw [h]
theorem copy : t.copy = s.copy := by rw [h]
theorem area : t.area = s.area := by rw [h]
theorem unread : t.unread = s.unread := by rw [h]
theorem segmentOut : t.segmentOut = s.segmentOut := by rw [h]
theorem controlOut : t.controlOut = s.controlOut := by rw [h]
theorem drainOut : t.drainOut = s.drainOut := by rw [h]
theorem pending : t.pending = s.pending := by rw [h]

end HeldWork

/-- A fold of operations on the held work is one. -/
theorem HeldWork.foldl {α : Type} (f : State → α → State) (hf : ∀ s a, HeldWork s (f s a)) (l : List α) (s : State) :
    HeldWork s (l.foldl f s) := by
  induction l generalizing s with
  | nil => exact .refl s
  | cons a l ih => exact (hf s a).trans (ih _)

theorem heldWork_setCtx (s : State) (i : Nat) (c : Context) : HeldWork s (setCtx s i c) := rfl

theorem heldWork_setExtent (s : State) (slot : Nat) (r : Extent) : HeldWork s (setExtent s slot r) := rfl

theorem heldWork_modCtx (s : State) (i : Nat) (f : Context → Context) : HeldWork s (modCtx s i f) := by
  unfold modCtx; split <;> rfl

theorem heldWork_restartTimer (s : State) (i : Nat) : HeldWork s (restartTimer s i) := heldWork_modCtx ..

theorem heldWork_createExtent (s : State) (i k : Nat) (v : Option Pcv) : HeldWork s (createExtent s i k v) := by
  unfold createExtent
  split
  · exact .refl s
  · refine .trans ?_ (heldWork_modCtx ..)
    rfl

theorem heldWork_unlinkExtent (s : State) (slot : Nat) (r : Extent) : HeldWork s (unlinkExtent s slot r) := by
  unfold unlinkExtent
  split
  · exact heldWork_modCtx ..
  · exact heldWork_modCtx ..
  · split <;> rfl
  · rfl

theorem heldWork_freeExtent (s : State) (slot : Nat) : HeldWork s (freeExtent s slot) := by
  unfold freeExtent
  split
  · exact .refl s
  · exact ((heldWork_unlinkExtent ..).trans (heldWork_modCtx ..)).trans rfl

theorem heldWork_freeExtents (s : State) (l : List Nat) : HeldWork s (freeExtents s l) :=
  HeldWork.foldl _ heldWork_freeExtent l s

theorem heldWork_holdIfReady (s : State) (i : Nat) (q : Fin 4) : HeldWork s (holdIfReady s i q) := by
  unfold holdIfReady; split <;> rfl

theorem heldWork_failStream (s : State) (i : Nat) (cause : Cause) : HeldWork s (failStream s i cause) := by
  unfold failStream
  split
  · exact .refl s
  · split
    · exact .refl s
    · exact (((heldWork_setCtx ..).trans (heldWork_freeExtents ..)).trans (heldWork_holdIfReady ..)).trans
        (heldWork_modCtx ..)

theorem heldWork_enterDone (s : State) (i n : Nat) : HeldWork s (enterDone s i n) := heldWork_modCtx ..

theorem heldWork_evalDone (s : State) (i : Nat) : HeldWork s (evalDone s i) := by
  unfold evalDone
  split
  · exact .refl s
  · split
    · dsimp only
      split
      · exact .refl s
      · split
        · split
          · exact heldWork_enterDone ..
          · exact heldWork_failStream ..
        · split
          · exact .refl s
          · exact heldWork_enterDone ..
    · exact .refl s

theorem heldWork_sealExtent (s : State) (slot : Nat) (b : Bool) : HeldWork s (sealExtent s slot b) := by
  unfold sealExtent
  split
  · exact .refl s
  · split
    · exact .refl s
    · dsimp only
      refine .trans (.trans ?_ (heldWork_restartTimer ..)) (heldWork_evalDone ..)
      rfl

theorem heldWork_extentReset (s : State) (slot : Nat) : HeldWork s (extentReset s slot) := by
  unfold extentReset
  split
  · exact .refl s
  · exact (heldWork_setExtent ..).trans (heldWork_modCtx ..)

theorem heldWork_compareExtent (s : State) (slot : Nat) : HeldWork s (compareExtent s slot).1 := by
  unfold compareExtent
  split
  · exact .refl s
  · split
    · exact heldWork_sealExtent ..
    · split
      · exact .refl s
      · split
        · exact heldWork_extentReset ..
        · exact heldWork_failStream ..

theorem heldWork_routeComplete (s : State) (slot : Nat) : HeldWork s (routeComplete s slot) := by
  unfold routeComplete
  split
  · exact .refl s
  · split
    · exact .refl s
    · split
      · split
        · exact heldWork_compareExtent ..
        · split
          · exact heldWork_setExtent ..
          · exact heldWork_sealExtent ..
      · exact .refl s

theorem heldWork_routeLast (s : State) (i l : Nat) : HeldWork s (routeLast s i l) := by
  unfold routeLast
  dsimp only
  split
  · split
    · exact .refl s
    · exact heldWork_routeComplete ..
  · exact .refl s

theorem heldWork_learnLength (s : State) (i l : Nat) : HeldWork s (learnLength s i l) := by
  unfold learnLength
  split
  · exact .refl s
  · split
    · exact ((heldWork_setCtx ..).trans (heldWork_routeLast ..)).trans (heldWork_evalDone ..)
    · exact .refl s

theorem heldWork_withdrawExtents (s : State) (i : Nat) : HeldWork s (withdrawExtents s i) := heldWork_freeExtents ..

theorem heldWork_abortStreamAt (s : State) (i : Nat) : HeldWork s (abortStreamAt s i) :=
  (heldWork_withdrawExtents ..).trans (heldWork_modCtx ..)

theorem heldWork_storeCheck (s : State) (slot : Nat) (v : Pcv) : HeldWork s (storeCheck s slot v).1 := by
  unfold storeCheck
  split
  · exact .refl s
  · split
    · exact (heldWork_setExtent ..).trans (heldWork_compareExtent ..)
    · exact heldWork_setExtent ..

theorem heldWork_storeObjectCheck (s : State) (i : Nat) (v : Pcv) : HeldWork s (storeObjectCheck s i v) :=
  (heldWork_modCtx ..).trans (heldWork_evalDone ..)

theorem heldWork_openAt (s : State) (i : Nat) (a : OpenArgs) : HeldWork s (openAt s i a) :=
  (heldWork_setCtx ..).trans (heldWork_evalDone ..)

theorem heldWork_trailerEffects (s : State) (i : Nat) (c : Context) (a : TrailerArrival) :
    HeldWork s (trailerEffects s i c a) := by
  have h1 : HeldWork s (trailerStore s i c a) := by
    unfold trailerStore
    split
    · split
      · exact heldWork_storeObjectCheck ..
      · exact .refl s
    · exact .refl s
  unfold trailerEffects
  dsimp only
  split <;> split
  · exact (h1.trans (heldWork_learnLength ..)).trans (heldWork_restartTimer ..)
  · exact h1.trans (heldWork_restartTimer ..)
  · exact h1.trans (heldWork_learnLength ..)
  · exact h1

end Sys2Proof.Machine
end

