-- ==== Sys2Proof/Laws/Commands.lean ====
section
/-! SUPPORT. The taking of a command and the tag map: what `takeCommand` and `lookupTag` can answer. -/
namespace Sys2Proof.Machine

/-- A command that can be taken runs its own rule on the state without it, and its response is placed. -/
theorem takeCommand_of_taken {k : CommandKind} {s : State} {c : CommandRecord} (h : Taken k s c)
    (body : List Word → State → Reply) :
    takeCommand k body s = .next (placeResponse c.tag (body c.args { s with commands := s.commands.tail })) := by
  obtain ⟨h1, h2, h3, h4⟩ := h
  unfold takeCommand
  cases hs : s.commands with
  | nil => simp [hs] at h1
  | cons d l =>
    simp only [hs, List.head?_cons, Option.some.injEq] at h1
    subst h1
    simp only [List.tail_cons]
    rw [if_pos ⟨h2, h4⟩, runCommand, if_neg (by omega)]

/-- Everything the taking of a command can do: nothing, or one command leaves the queue and is answered. -/
theorem takeCommand_cases (k : CommandKind) (body : List Word → State → Reply) (s : State) :
    takeCommand k body s = .next s ∨
      ∃ c rest, s.commands = c :: rest ∧ commandKind c.code = some k ∧ s.responses.length < Config.responseCapacity ∧
        takeCommand k body s = .next (placeResponse c.tag (runCommand k c.args { s with commands := rest } body)) := by
  unfold takeCommand
  split
  · exact .inl rfl
  · rename_i c rest hs
    split
    · exact .inr ⟨c, rest, hs, (‹_ ∧ _›).1, (‹_ ∧ _›).2, rfl⟩
    · exact .inl rfl

/-- Everything the taking of a drain request can do: nothing while an answer waits, or its answer waits. -/
theorem takeRequest_cases (s : State) (body : State → State × DrainAnswer) :
    (s.drainAnswer ≠ none ∧ takeRequest s body = .next s) ∨
      (s.drainAnswer = none ∧ takeRequest s body = .next { (body s).1 with drainAnswer := some (body s).2 }) := by
  unfold takeRequest
  cases h : s.drainAnswer <;> simp

@[simp] theorem lookupTag_commands (s : State) (l : List CommandRecord) (tag : Word) :
    lookupTag { s with commands := l } tag = lookupTag s tag := rfl

@[simp] theorem ctxOf_commands (s : State) (l : List CommandRecord) (i : Nat) :
    ctxOf { s with commands := l } i = ctxOf s i := rfl

/-- What the tag map answers names a context that is not FREE and carries the tag. -/
theorem lookupTag_some {s : State} (hw : tabWf s.contexts = true) {tag : Word} {i : Nat} {c : Context}
    (h : lookupTag s tag = some (i, c)) : ctxOf s i = some c ∧ c.tag = tag := by
  unfold lookupTag at h
  rw [Option.bind_eq_some_iff] at h
  obtain ⟨⟨j, d⟩, hf, hm⟩ := h
  simp only [Option.map_eq_some_iff, Prod.mk.injEq] at hm
  obtain ⟨d', h1, h2, h3⟩ := hm
  subst h2; subst h3
  have hd : ctxOf s j = some d := tabGet_of_mem hw (List.mem_of_find?_eq_some hf)
  rw [h1] at hd
  cases hd
  exact ⟨h1, by simpa using List.find?_some hf⟩

/-- A tag that is not mapped is carried by no context. -/
theorem lookupTag_none {s : State} (hw : tabWf s.contexts = true) {tag : Word} (h : lookupTag s tag = none) :
    ∀ y ∈ s.contexts, y.2.tag ≠ tag := by
  unfold lookupTag at h
  cases hf : s.contexts.find? (fun e => e.2.tag == tag) with
  | none =>
    intro y hy
    have := List.find?_eq_none.1 hf y hy
    simpa using this
  | some e =>
    obtain ⟨j, d⟩ := e
    have hd : ctxOf s j = some d := tabGet_of_mem hw (List.mem_of_find?_eq_some hf)
    simp [hf, hd] at h

end Sys2Proof.Machine
end

