-- ==== Sys2Proof/Laws/Arrivals.lean ====
section
/-! SUPPORT. The answers of the segment port: on what the first hole depends, and each shared answer of Arrivals.lean in the
terms of Safety.lean. -/
namespace Sys2Proof.Machine

/-! ## The first hole (R18) -/

/-- The walk for the first hole reads the extent table and the stream's index only. -/
theorem holeFrom_congr {s t : State} (he : t.extents = s.extents) (i e : Nat) (w : List WinPos) (k : Nat) :
    holeFrom t i e w k = holeFrom s i e w k := by
  have hu : ∀ k, unsealedRecord t i k = unsealedRecord s i k := by
    intro k; unfold unsealedRecord findUnsealed; rw [he]
  induction w generalizing k with
  | nil => rfl
  | cons p w ih => cases p <;> simp only [holeFrom, ih, hu]

/-- The first hole reads the extent table, the extent size, the window, the retired edge and L, and nothing else. -/
theorem firstHole_congr {s t : State} {c d : Context} (he : t.extents = s.extents) (hz : t.extentSize = s.extentSize)
    (hw : d.window = c.window) (hk : d.edge = c.edge) (hl : d.length = c.length) (i : Nat) :
    firstHole t i d = firstHole s i c := by
  have hh : highestEnd t i d = highestEnd s i c := by
    unfold highestEnd recordsOf; rw [he, hz, hk]
  unfold firstHole
  rw [hh, hz, hw, hk, hl]
  simp only [holeFrom_congr he]

/-! ## The shared answers (R34 to R38) -/

theorem refuseContext_eq (code : DispCode) (c : Context) : refuseContext code c = refusedContext c code := by
  unfold refuseContext refusedContext StreamCounters.refusal
  have h : (code.isProtocol && (c.state.running || c.state == .done)) =
      decide (code ∈ protocolCodes ∧ (c.state = .opened ∨ c.state = .ending ∨ c.state = .done)) := by
    cases code <;> cases c.state <;> decide
  simp only [h, decide_eq_true_eq]

theorem modCtx_some {s : State} {i : Nat} {c : Context} (h : ctxOf s i = some c) (f : Context → Context) :
    modCtx s i f = setCtx s i (f c) := by
  unfold modCtx; rw [h]

theorem firstHoleOf_some {s : State} {i : Nat} {c : Context} (h : ctxOf s i = some c) :
    firstHoleOf s i = some (firstHole s i c) := by
  unfold firstHoleOf; rw [h]; rfl

/-- Two counts of one link are one count. -/
theorem countLink_countLink (s : State) (link : Fin 4) (f g : LinkCounters → LinkCounters) :
    countLink (countLink s link f) link g = countLink s link (fun k => g (f k)) := by
  simp [countLink]

/-- The refusal of an arrival on a mapped context is the state that `turnedAway` names. -/
theorem refuseArrival_eq {s : State} {rest : List Arrival} {link : Fin 4} {tag : Word} {i : Nat} {c : Context}
    (h : ctxOf s i = some c) (code : DispCode) :
    refuseArrival (countLink { s with inputQueue := rest } link LinkCounters.arrival) i link tag code =
      turnedAway s rest link tag i c code := by
  have hc : ∀ f, ctxOf (countLink { s with inputQueue := rest } link f) i = some c := fun _ => h
  have hs : ∀ u : State, ctxOf (setCtx u i (refusedContext c code)) i = some (refusedContext c code) := by
    intro u; simp [ctxOf, setCtx]
  have hh : ∀ f, firstHole (setCtx (countLink { s with inputQueue := rest } link f) i (refusedContext c code)) i
      (refusedContext c code) = firstHole s i c := fun _ => by apply firstHole_congr <;> rfl
  unfold refuseArrival answerMapped
  rw [countLink_countLink, modCtx_some (hc _), refuseContext_eq, firstHoleOf_some (hs _), hh]
  rfl

/-- The answer to a CHECK or TRAILER that changes no held data is the state that `answeredOnly` names. -/
theorem admitAnswer_eq {s : State} {rest : List Arrival} {link : Fin 4} {tag : Word} {i : Nat} {c : Context}
    (h : ctxOf s i = some c) (code : DispCode) :
    admitAnswer (countLink { s with inputQueue := rest } link LinkCounters.arrival) i tag code =
      answeredOnly s rest link tag i c code := by
  have hc : ctxOf (countLink { s with inputQueue := rest } link LinkCounters.arrival) i = some c := h
  have hh : firstHole (countLink { s with inputQueue := rest } link LinkCounters.arrival) i c = firstHole s i c :=
    by apply firstHole_congr <;> rfl
  unfold admitAnswer answerMapped
  rw [firstHoleOf_some hc, hh]
  rfl

/-- The answer to an arrival for no mapped stream is the state that `answeredUnknown` names. -/
theorem refuseUnknownStream_eq (s : State) (rest : List Arrival) (link : Fin 4) (tag : Word) :
    refuseUnknownStream (countLink { s with inputQueue := rest } link LinkCounters.arrival) link tag =
      answeredUnknown s rest link tag := by
  unfold refuseUnknownStream
  rw [countLink_countLink]
  rfl

/-! ## The taking of an arrival (R28, R30) -/

theorem execSegment_atHead {s : State} {a : SegmentArrival} {rest : List Arrival} (h : AtHead s (.segment a) rest) :
    execSegment s = handleSegment { s with inputQueue := rest } a := by
  unfold execSegment; rw [h.1, h.2]

theorem execCheck_atHead {s : State} {a : CheckArrival} {rest : List Arrival} (h : AtHead s (.check a) rest) :
    execCheck s = .next (handleCheck { s with inputQueue := rest } a) := by
  unfold execCheck; rw [h.1, h.2]

theorem execTrailer_atHead {s : State} {a : TrailerArrival} {rest : List Arrival} (h : AtHead s (.trailer a) rest) :
    execTrailer s = .next (handleTrailer { s with inputQueue := rest } a) := by
  unfold execTrailer; rw [h.1, h.2]

end Sys2Proof.Machine
end

