-- ==== Sys2Proof/Laws/Memory.lean ====
section
/-! SUPPORT. The laws of buffer memory (R51): reading after writing, and the canonical form. -/
namespace Sys2Proof.Machine

variable {α : Type}

theorem tabGet_append (t u : Table α) (k : Nat) : tabGet (t ++ u) k = (tabGet t k).or (tabGet u k) := by
  induction t with
  | nil => simp [tabGet]
  | cons x t ih =>
    obtain ⟨j, w⟩ := x
    by_cases h : k = j
    · simp [tabGet, h]
    · simp [tabGet, h, ih]

theorem tabGet_filter (t : Table α) (p : Nat → Bool) (k : Nat) :
    tabGet (t.filter (fun c => p c.1)) k = if p k = true then tabGet t k else none := by
  induction t with
  | nil => simp [tabGet]
  | cons x t ih =>
    obtain ⟨j, w⟩ := x
    by_cases h : k = j
    · subst h; by_cases hp : p k = true <;> simp [tabGet, hp, ih]
    · by_cases hp : p j = true <;> simp [tabGet, hp, ih, h]

theorem tabGet_cellsOf (bs : List Byte) (a x : Nat) :
    tabGet (cellsOf a bs) x =
      if a ≤ x ∧ x < a + bs.length ∧ bs.getD (x - a) 0 ≠ 0 then some (bs.getD (x - a) 0) else none := by
  induction bs generalizing a with
  | nil => simp [cellsOf, tabGet]
  | cons b bs ih =>
    have key : tabGet (cellsOf a (b :: bs)) x =
        if x = a then (if b = 0 then none else some b) else tabGet (cellsOf (a + 1) bs) x := by
      rw [cellsOf]
      by_cases hb : b = 0
      · rw [if_pos hb]
        by_cases hx : x = a
        · subst hx; rw [if_pos rfl, if_pos hb, ih, if_neg (by omega)]
        · rw [if_neg hx]
      · rw [if_neg hb, tabGet]
        by_cases hx : x = a
        · rw [if_pos hx, if_pos hx, if_neg hb]
        · rw [if_neg hx, if_neg hx]
    rw [key, ih]
    by_cases hx : x = a
    · subst hx; by_cases hb : b = 0 <;> simp [hb]
    · rcases Nat.lt_or_ge x a with h | h
      · have h1 : ¬ a + 1 ≤ x := by omega
        have h2 : ¬ a ≤ x := by omega
        simp [hx, h1, h2]
      · obtain ⟨d, rfl⟩ : ∃ d, x = a + 1 + d := ⟨x - a - 1, by omega⟩
        have e1 : a + 1 + d - a = d + 1 := by omega
        have e2 : a + 1 + d - (a + 1) = d := by omega
        have e3 : a + 1 + d < a + 1 + bs.length ↔ a + 1 + d < a + (bs.length + 1) := by omega
        have e4 : a ≤ a + 1 + d := by omega
        simp [hx, e1, e2, e3, e4]

/-- Reading a byte after a run of bytes is written. -/
theorem readByte_writeBytes (m : List Host.Cell) (a x : Nat) (bs : List Byte) :
    readByte (writeBytes m a bs) x = if a ≤ x ∧ x < a + bs.length then bs.getD (x - a) 0 else readByte m x := by
  unfold readByte writeBytes
  rw [tabGet_append, tabGet_append, tabGet_filter m (fun y => decide (y < a)),
    tabGet_filter m (fun y => decide (a + bs.length ≤ y)), tabGet_cellsOf]
  by_cases h1 : x < a
  · have h2 : ¬ a ≤ x := by omega
    have h3 : ¬ a + bs.length ≤ x := by omega
    simp [h1, h2, h3]
  · by_cases h2 : x < a + bs.length
    · have h3 : a ≤ x := by omega
      by_cases h4 : bs.getD (x - a) 0 = 0
      · simp only [h1, h2, h3, h4]; simp [Nat.not_le.2 h2]
      · simp only [List.getD_eq_getElem?_getD] at *
        simp only [h1, h2, h3, ne_eq, h4]; simp [Nat.not_le.2 h2]
    · have h3 : a + bs.length ≤ x := by omega
      simp [h1, h2, h3]

/-- A byte outside a written run reads as before. -/
theorem readByte_writeBytes_other (m : List Host.Cell) {a x : Nat} (bs : List Byte) (h : x < a ∨ a + bs.length ≤ x) :
    readByte (writeBytes m a bs) x = readByte m x := by
  rw [readByte_writeBytes, if_neg (by omega)]

/-- A byte of a written run reads as written. -/
theorem readByte_writeBytes_same (m : List Host.Cell) (a : Nat) (bs : List Byte) {j : Nat} (h : j < bs.length) :
    readByte (writeBytes m a bs) (a + j) = bs.getD j 0 := by
  rw [readByte_writeBytes, if_pos (by omega)]
  congr 1; omega

theorem mem_cellsOf {bs : List Byte} {a : Nat} {c : Host.Cell} (h : c ∈ cellsOf a bs) :
    a ≤ c.1 ∧ c.1 < a + bs.length ∧ c.2 ≠ 0 := by
  induction bs generalizing a with
  | nil => simp [cellsOf] at h
  | cons b bs ih =>
    unfold cellsOf at h
    rw [List.length_cons]
    split at h
    · have := ih h; exact ⟨by omega, by omega, this.2.2⟩
    · rcases List.mem_cons.1 h with e | h
      · subst e; exact ⟨le_refl _, by simp only; omega, ‹_›⟩
      · have := ih h; exact ⟨by omega, by omega, this.2.2⟩

theorem pairwise_cellsOf (bs : List Byte) (a : Nat) : (cellsOf a bs).Pairwise (fun x y => x.1 < y.1) := by
  induction bs generalizing a with
  | nil => simp [cellsOf]
  | cons b bs ih =>
    unfold cellsOf
    split
    · exact ih _
    · exact List.pairwise_cons.2 ⟨fun y m => by have := mem_cellsOf m; simp only; omega, ih _⟩

/-- Every write inside the 2 GiB keeps memory's canonical form. -/
theorem memWf_writeBytes {m : List Host.Cell} (h : memWf m = true) {a : Nat} {bs : List Byte}
    (ha : a + bs.length ≤ Config.bufferBytes) : memWf (writeBytes m a bs) = true := by
  unfold memWf at *
  rw [Bool.and_eq_true, tabWf_iff, List.all_eq_true] at *
  obtain ⟨h1, h2⟩ := h
  unfold writeBytes
  refine ⟨?_, fun c hc => ?_⟩
  · rw [List.pairwise_append, List.pairwise_append]
    refine ⟨⟨h1.sublist List.filter_sublist, pairwise_cellsOf bs a, ?_⟩, h1.sublist List.filter_sublist, ?_⟩
    · intro x hx y hy
      have := mem_cellsOf hy
      have := (List.mem_filter.1 hx).2
      simp only [decide_eq_true_eq] at this
      omega
    · intro x hx y hy
      have hy := (List.mem_filter.1 hy).2
      simp only [decide_eq_true_eq] at hy
      rcases List.mem_append.1 hx with hx | hx
      · have hx := (List.mem_filter.1 hx).2
        simp only [decide_eq_true_eq] at hx
        omega
      · have := mem_cellsOf hx
        omega
  · rcases List.mem_append.1 hc with hc | hc
    · rcases List.mem_append.1 hc with hc | hc
      · exact h2 _ (List.mem_filter.1 hc).1
      · have := mem_cellsOf hc
        simp only [bne_iff_ne, ne_eq, Bool.and_eq_true, decide_eq_true_eq]
        exact ⟨this.2.2, by omega⟩
    · exact h2 _ (List.mem_filter.1 hc).1

/-- The memory of the machine right after power-on is in canonical form. -/
theorem memWf_reset : memWf State.reset.mem = true := by decide

/-- The bytes of a run, one by one. -/
theorem readBytes_eq_map (m : List Host.Cell) (a n : Nat) :
    readBytes m a n = (List.range n).map (fun j => readByte m (a + j)) := by
  induction n generalizing a with
  | zero => rfl
  | succ n ih =>
    rw [readBytes, ih, List.range_succ_eq_map]
    simp [Function.comp_def, Nat.add_comm, Nat.add_left_comm]

@[simp] theorem length_readBytes (m : List Host.Cell) (a n : Nat) : (readBytes m a n).length = n := by
  simp [readBytes_eq_map]

end Sys2Proof.Machine
end

