-- ==== Sys2Proof/Laws/Operations.lean ====
section
/-! SUPPORT. What the shared operations over contexts, windows, records and queues do, once for each. -/
namespace Sys2Proof.Machine

/-- Setting an entry to what it already is changes nothing. -/
theorem tabSet_self {α : Type} {t : Table α} (hw : tabWf t = true) {k : Nat} {v : α} (h : tabGet t k = some v) :
    tabSet t k v = t := by
  apply tab_ext (tabWf_tabSet hw k v) hw
  intro j
  rw [tabGet_tabSet]
  split <;> simp_all

/-- A window position read after one is set; a position outside the window is not set (R21). -/
theorem winGet_winSet (c : Context) (k j : Nat) (v : WinPos) :
    winGet { c with window := winSet c k v } j =
      if j = k ∧ c.edge ≤ k ∧ k - c.edge < 64 then v else winGet c j := by
  unfold winGet winSet
  by_cases h : c.edge ≤ k ∧ k - c.edge < 64
  · by_cases h2 : c.edge ≤ j ∧ j - c.edge < 64
    · rw [dif_pos h]
      simp only [h, h2, dif_pos, and_true, Vector.getElem_set]
      by_cases hj : j = k
      · simp [hj]
      · rw [if_neg (by omega), if_neg hj]
    · rw [dif_neg h2, if_neg, dif_neg h2]
      rintro ⟨rfl, h3⟩
      exact h2 h3
  · rw [if_neg (by rintro ⟨_, h3⟩; exact h h3)]
    simp only [dif_neg h]

/-- The generations after that of one slot has advanced (R60 step 4, R61). -/
theorem getD_bumpGen (s : State) (slot n : Nat) :
    (tabGet (bumpGen s slot) n).getD 0 = if n = slot then genOf s n + 1 else genOf s n := by
  unfold bumpGen
  split
  · rename_i h
    rw [tabGet_tabErase]
    split
    · subst_vars
      simpa using h.symm
    · rfl
  · rw [tabGet_tabSet]
    split
    · subst_vars
      simp
    · rfl

/-- The slots of a stream's records in some states are listed once each. -/
theorem slotsOf_nodup {s : State} (hw : tabWf s.extents = true) (i : Nat) (p : ExtentState → Bool) :
    (slotsOf s i p).Nodup := by
  have h := (tabWf_iff _).1 hw
  unfold slotsOf recordsOf
  rw [List.nodup_iff_pairwise_ne, List.pairwise_map]
  exact ((h.sublist List.filter_sublist).sublist List.filter_sublist).imp (fun h => Nat.ne_of_lt h)

/-- The slots of a stream's records in some states. -/
theorem mem_slotsOf {s : State} (hw : tabWf s.extents = true) {i n : Nat} {p : ExtentState → Bool} :
    n ∈ slotsOf s i p ↔ ∃ r, tabGet s.extents n = some r ∧ r.stream = i ∧ p r.state = true := by
  unfold slotsOf recordsOf
  simp only [List.mem_map, List.mem_filter, beq_iff_eq, Prod.exists, exists_and_right, exists_eq_right]
  constructor
  · rintro ⟨r, ⟨h1, h2⟩, h3⟩
    exact ⟨r, tabGet_of_mem hw h1, h2, h3⟩
  · rintro ⟨r, h1, h2, h3⟩
    exact ⟨r, ⟨mem_of_tabGet h1, h2⟩, h3⟩

/-- A restart cause (R122, R124), on a stream that runs and on one that does not. -/
theorem restartTimer_eq {s : State} {i : Nat} {c : Context} (h : ctxOf s i = some c) :
    restartTimer s i =
      setCtx s i
        (if c.state.running = true then { c with count := 0, phase := startPhase c.compareA c.compareB } else c) := by
  rw [restartTimer, modCtx_some h]
  rfl

/-- Allocation (R58, R66, R67) from a free-slot list that is not empty. -/
theorem createExtent_eq {s : State} {slot : Nat} {rest : List Nat} {i : Nat} {c : Context} (hs : s.freeSlots = slot :: rest)
    (h : ctxOf s i = some c) (k : Nat) (v : Option Pcv) :
    createExtent s i k v =
      { s with
        freeSlots := rest
        extents := tabSet s.extents slot (newExtent i k v)
        contexts := tabSet s.contexts i { c with window := winSet c k .live, held := c.held + 1 } } := by
  unfold createExtent
  rw [hs]
  exact modCtx_some (s := setExtent { s with freeSlots := rest } slot (newExtent i k v)) h _

/-- The extent reset (R110). -/
theorem extentReset_eq {s : State} {slot : Nat} {r : Extent} {c : Context} (hr : tabGet s.extents slot = some r)
    (hc : ctxOf s r.stream = some c) :
    extentReset s slot =
      setCtx
        (setExtent s slot
          { r with state := .filling, ranges := [], acc := { s := 0, t := 0 }, retries := r.retries + 1 })
        r.stream
        { c with
          notices := { c.notices with retry := some r.index }
          counters := { c.counters with retries := c.counters.retries.add Config.max16 1 } } := by
  unfold extentReset
  rw [hr]
  exact modCtx_some
    (s := setExtent s slot
      { r with state := .filling, ranges := [], acc := { s := 0, t := 0 }, retries := r.retries + 1 }) hc _

/-- A record after the record of one slot became CLAIMED (R143, step 3). -/
theorem tabGet_claimExtent (s : State) (slot n : Nat) :
    tabGet (claimExtent s slot) n =
      if n = slot then (tabGet s.extents n).map (fun r => { r with state := .claimed }) else tabGet s.extents n := by
  unfold claimExtent
  split
  · rename_i h
    split
    · subst_vars
      simp [h]
    · rfl
  · rename_i r h
    rw [tabGet_tabSet]
    split
    · subst_vars
      simp [h]
    · rfl

/-- A counter's increase (R182): the sum, or the maximum with the flag set. -/
theorem counter_add_cases (max : Nat) (c : Counter) (n : Nat) :
    (n = 0 ∧ c.add max n = c) ∨
    (n ≠ 0 ∧ c.value + n < max ∧ c.add max n = { c with value := c.value + n }) ∨
    (n ≠ 0 ∧ max ≤ c.value + n ∧ c.add max n = { value := max, saturated := true }) := by
  unfold Counter.add
  by_cases h : n = 0
  · exact .inl ⟨h, by simp [h]⟩
  · by_cases g : c.value + n < max
    · exact .inr (.inl ⟨h, g, by simp [h, g]⟩)
    · exact .inr (.inr ⟨h, by omega, by simp [h, g]⟩)

end Sys2Proof.Machine
end

