-- ==== Sys2Proof/Tests/Slice0.lean ====
section
/-! SUPPORT. Tests of the model: the checks of WellFormed, the port records written out from chapter 12, small effects
worked in the manual or by hand from its rules, and for each statement a state that meets its hypotheses. -/
namespace Sys2Proof.Tests
set_option Elab.async false
open Sys2Proof Sys2Proof.Machine

/-! ## Small states -/

/-- A stream just opened with tag 0x42 and argument word 1 as given, with the power-on timer defaults. -/
def fresh (word1 : Word) : Context := openContext State.reset (openArgs [0x42, word1, 0, 0, 0, 0, 0])

/-- A stream in ENDING with L = 8, one extent of length 8. -/
def ending8 : Context := { fresh 0 with state := .ending, length := some 8 }

/-- A stream in a state that runs no timer. -/
def still (st : StreamState) (cause : Option Cause) : Context := { ending8 with state := st, cause := cause, phase := .off }

/-- A record of extent 0 of stream 0, complete for L = 8 with eight bytes of zero. -/
def rec8 (st : ExtentState) : Extent :=
  { newExtent 0 0 none with state := st, ranges := [(0, 8)] }

/-- A stream with extent 0 LIVE. -/
def live (c : Context) : Context := { c with window := winSet c 0 .live, held := 1 }

/-- A stream with extent 0 sealed behind the retired edge. -/
def past (c : Context) : Context := { c with edge := 1, held := 1 }

/-- The part with one stream, context 0, and no record. -/
def one (c : Context) : State := { State.reset with contexts := [(0, c)] }

/-- The part with one stream and one record, bound to slot 0. -/
def bound (c : Context) (r : Extent) : State :=
  { one c with extents := [(0, r)], freeSlots := List.range' 1 2047 }

/-- The handle of slot 0 at generation 0. -/
def h0 : Handle := { slot := 0, gen := 0 }

/-- The part with one stream and one READY record in queue 0. -/
def readyOne (c : Context) : State := { bound (past c) (rec8 .ready) with ready := #v[[h0], [], [], []] }

/-- The part with one stream and one CLAIMED record. -/
def claimedOne (c : Context) : State := { bound (past c) (rec8 .claimed) with claims := [h0] }

/-- A command record with host tag 9. -/
def cmd (code : BitVec 16) (args : List Word) : CommandRecord := { code := code, tag := 9, args := args }

/-- The part with one command written. -/
def told (s : State) (code : BitVec 16) (args : List Word) : State := { s with commands := [cmd code args] }

/-- The part with one arrival delivered. -/
def met (s : State) (a : Arrival) : State := { s with inputQueue := [a] }

/-- A SEGMENT for tag 0x42 on link 1. -/
def seg (offset : BitVec 48) (final : Bool) (payload : List Byte) : SegmentArrival :=
  { link := 1, tag := 0x42, offset := offset, final := final, payload := payload }

/-- A CHECK for tag 0x42 on link 2. -/
def chk (index s t : Word) : CheckArrival := { link := 2, tag := 0x42, index := index, s := s, t := t }

/-- A TRAILER for tag 0x42 on link 3. -/
def trl (length : BitVec 48) (pcv : Option (Word × Word)) : TrailerArrival :=
  { link := 3, tag := 0x42, length := length, pcv := pcv }

/-- `n` bytes that hold the words given, each in its first byte. -/
def bytesOf (ws : List Byte) : List Byte := ws.flatMap (fun b => [b, 0, 0, 0])

/-- Whether a step answers a next state that satisfies `p`. -/
def ends (i : Instr) (s : State) (p : State → Bool) : Bool :=
  match exec i s with
  | .next t => p t
  | .fault _ => false
  | .refused _ => false

/-- The status and the result words of the last response. -/
def lastReply (s : State) : Option (Status × List Word) := s.responses.getLast?.map (fun r => (r.status, r.results))

/-! ## WellFormed: an ill-formed term for each check, refused -/

theorem test_payload_too_long_refused :
    Instr.wellFormed (.arrivalDelivery (.segment (seg 0 false (List.replicate 65536 0)))) = false := by decide +kernel

theorem test_longest_payload_kept :
    Instr.wellFormed (.arrivalDelivery (.segment (seg 0 false (List.replicate 65535 0)))) = true := by decide +kernel

theorem test_unknown_arrival_of_known_kind_refused :
    Instr.wellFormed (.arrivalDelivery (.unknown { kind := 0x03, link := 0, tag := 0 })) = false := by decide

theorem test_too_many_arguments_refused :
    Instr.wellFormed (.commandWrite { code := 1, tag := 0, args := List.replicate 256 0 }) = false := by
  decide +kernel

theorem test_slot_above_field_refused :
    Instr.wellFormed (.readData { slot := 4096, gen := 0 } 0 0) = false ∧
      Instr.wellFormed (.release { slot := 4096, gen := 0 } .stored) = false := by decide

theorem test_unknown_request_of_known_kind_refused : Instr.wellFormed (.unknownRequest 0x05) = false := by decide

/-! ## Records written out from chapter 12, byte 31 or 15 first -/

/-- 12.1: a SEGMENT, link 2, FINAL set, 3 payload bytes, tag 0x00004D2F, offset 0x010000000008; bits 3 to 7 of byte 1 and
byte 14 are reserved and hold ones. -/
theorem test_segment_record :
    decodeArrival 0x000000000000000000000000000000000_0FF_010000000008_00004D2F_0003_FE_01 [1, 2, 3] =
      some (.segment { link := 2, tag := 0x4D2F, offset := 0x010000000008, final := true, payload := [1, 2, 3] }) := by
  decide +kernel

/-- 12.1: a CHECK, link 1, tag 7, extent index 5, S = 0xD2, T = 0x38E. -/
theorem test_check_record :
    decodeArrival 0x00000000000000000000038E_000000D2_00000000_00000005_00000007_0000_01_02 [] =
      some (.check { link := 1, tag := 7, index := 5, s := 0xD2, t := 0x38E }) := by decide +kernel

/-- 12.1: a TRAILER, link 3, PCV present, tag 7, length 75730, S = 8, T = 26; and one whose PCV is absent. -/
theorem test_trailer_record :
    decodeArrival 0x00000000000000000000001A_00000008_0000_0000000127D2_00000007_0000_07_03 [] =
      some (.trailer { link := 3, tag := 7, length := 75730, pcv := some (8, 26) }) ∧
    decodeArrival 0x00000000000000000000001A_00000008_0000_0000000127D2_00000007_0000_03_03 [] =
      some (.trailer { link := 3, tag := 7, length := 75730, pcv := none }) := by decide +kernel

/-- 12.3: OPEN_STREAM, tag 0x1234, seven argument words; a record short of its word count spells no command. -/
theorem test_command_record :
    decodeWrite 0x0000_1234_00_07_0001 [0x42, 0, 0, 0, 0, 0, 0] =
      some (.commandWrite { code := 1, tag := 0x1234, args := [0x42, 0, 0, 0, 0, 0, 0] }) ∧
    decodeWrite 0x0000_1234_00_07_0001 [0x42] = none := by decide +kernel

/-- 12.2: READ_READY of queue 3 with count 8; CHAIN_READ of 128; READ_DATA of slot 0xABC, generation 0x5D, offset 16, length
65536; RELEASE with FAILED_STORE; DRAIN_STATUS; a kind that is none of the five. Reserved bits hold ones. -/
theorem test_drain_request_records :
    decodeRequest 0x00000000_00000000_00_00_0000_FF_08_FF_01 = .readReady 3 8 ∧
    decodeRequest 0x00000000_00000000_00_00_0000_00_80_00_02 = .chainRead 128 ∧
    decodeRequest 0xFFFF0000_00000010_FF_5D_FABC_00_00_00_03 = .readData { slot := 0xABC, gen := 0x5D } 16 65536 ∧
    decodeRequest 0x00000000_00000000_00_5D_0ABC_00_00_01_04 = .release { slot := 0xABC, gen := 0x5D } .failedStore ∧
    decodeRequest 0x00000000_00000000_00_00_0000_00_00_00_05 = .drainStatusRequest ∧
    decodeRequest 0x00000000_00000000_00_00_0000_00_00_00_06 = .unknownRequest 6 := by decide +kernel

/-- 12.1: the 16 bytes of a disposition PARTIAL, 8192 new bytes, tag 0x0000B200, first hole 32768. -/
theorem test_disposition_record :
    dispositionBytes { code := .partialNew, tag := 0xB200, newBytes := 8192, hole := some (.offset 32768) } =
      [0x01, 0, 0x00, 0x20, 0x00, 0xB2, 0, 0, 0x00, 0x80, 0, 0, 0, 0, 0, 0] := by decide +kernel

/-- 12.2: a RETRIED descriptor of slot 0x123, generation 4, queue 1, tag 7, extent 1 of 64 KiB, 24 bytes, PCV (210, 910). -/
theorem test_descriptor_record :
    readRecordBytes
        (.extent
          { handle := { slot := 0x123, gen := 4 }, queue := 1, tag := 7, index := 1, offset := 65536, length := 24,
            pcv := { s := 210, t := 910 }, last := true, unchecked := false, retried := true, requeued := false,
            streamFailed := false }) =
      [0x01, 0x05, 0x23, 0x01, 4, 1, 0, 0, 7, 0, 0, 0, 1, 0, 0, 0, 0, 0, 1, 0, 0, 0, 0, 0, 24, 0, 0, 0, 210, 0, 0, 0,
        0x8E, 0x03, 0, 0, 0, 0, 0, 0] := by decide +kernel

/-! ## Settings and sizes: the tables of R54, R160 and R92 -/

theorem test_extent_sizes_of_the_table_of_r54 :
    [0, 1000, 100000, 1048576, 3000000, 8388608, 0xFFFFFFFF].map (fun a => extentBytes (extentSizeOfArg a)) =
      [65536, 65536, 65536, 1048576, 2097152, 4194304, 4194304] := by decide +kernel

theorem test_quotas_of_the_table_of_r160 :
    [0, 1, 2, 3, 4, 5, 7, 10, 127].map (fun w => [quota w 0, quota w 1, quota w 2, quota w 3]) =
      [[0, 0, 0, 0], [1, 0, 0, 0], [1, 1, 0, 0], [1, 1, 1, 0], [1, 1, 1, 1], [2, 1, 1, 1], [2, 2, 2, 1], [3, 3, 2, 2],
        [32, 32, 32, 31]] := by decide +kernel

/-- The reduced offsets worked in 4.6.3. -/
theorem test_word_offsets_of_4_6_3 :
    wordOffset 1048576 (2 ^ 20) = 128 ∧ wordOffset 65536 (2 ^ 28 - 1) = 2147469311 ∧ wordOffset 65536 1 = 16384 := by
  decide +kernel

/-- The PCVs worked in 4.6.1 and 4.6.4, and the two sub-pieces of 4.6.1 in either order. -/
theorem test_check_values_of_4_6 :
    pcvOf (bytesOf [10, 20, 30, 40, 50, 60]) = { s := 210, t := 910 } ∧
    pcvOf [1, 0, 0, 0, 0, 0, 0, 0x80, 0xFF, 0xFF, 0xFF, 0xFF, 5] = { s := 8, t := 26 } ∧
    accumulate { s := 0, t := 0 } 3 (bytesOf [40, 50, 60]) = { s := 150, t := 770 } ∧
    accumulate { s := 150, t := 770 } 0 (bytesOf [10, 20, 30]) = { s := 210, t := 910 } ∧
    accumulate { s := 150, t := 550 } 5 (bytesOf [60]) = { s := 210, t := 910 } := by decide +kernel

/-- The folds worked in 4.6.2 and 4.6.3. -/
theorem test_folds_of_4_6 :
    foldPcv { s := 1000, t := 5000 } 65536 1 { s := 210, t := 910 } = { s := 1210, t := 3446550 } ∧
    foldPcv { s := 3, t := 200 } 1048576 (2 ^ 20) { s := 2147483646, t := 50 } = { s := 2, t := 122 } := by decide +kernel

/-- Pieces 4 and 2 of the worked sequence in 3.5.1. -/
theorem test_pieces_of_3_5_1 :
    let rs := [(0, 12288), (16384, 20480), (24576, 28672), (32768, 36864), (40960, 45056), (49152, 53248), (57344, 65536)]
    trimPiece rs 10240 26624 = [(12288, 16384), (20480, 24576)] ∧
    insertRange rs 10240 26624 = [(0, 28672), (32768, 36864), (40960, 45056), (49152, 53248), (57344, 65536)] ∧
    countAfter ((0, 4096) :: (8192, 12288) :: rs.tail) 4608 5120 = 9 := by decide +kernel

/-! ## The segment port -/

/-- The state before the worked sequence of 2.7. -/
def b200 : State :=
  { State.reset with
    extentSize := .k64
    contexts := [(0, { live (fresh 0x30000) with tag := 0xB200 })]
    extents := [(5, { newExtent 0 0 none with ranges := [(0, 32768), (49152, 65536)] })]
    freeSlots := [12, 13] }

/-- Arrival 1 of 2.7: PARTIAL with 8192 new bytes, first hole 32768; extent 1 takes slot 12 with range [0, 8192). -/
theorem test_segment_2_7_arrival_1 :
    ends .segment
      (met b200 (.segment { link := 2, tag := 0xB200, offset := 57344, final := false, payload := List.replicate 16384 1 }))
      (fun t =>
        t.disposition == some { code := .partialNew, tag := 0xB200, newBytes := 8192, hole := some (.offset 32768) } &&
          (tabGet t.extents 12).map (fun r => (r.index, r.ranges)) == some (1, [(0, 8192)]) && t.freeSlots == [13] &&
          readByte t.mem (12 * 65536 + 8191) == 1 && readByte t.mem (12 * 65536 + 8192) == 0) = true := by decide +kernel

/-- Arrival 1 of 4.6.4: five bytes with FINAL at offset 8 give (6, 23), L = 13 and ENDING. -/
theorem test_segment_4_6_4_arrival_1 :
    ends .segment (met (one (fresh 0)) (.segment (seg 8 true [0xFF, 0xFF, 0xFF, 0xFF, 5])))
      (fun t =>
        (tabGet t.extents 0).map (fun r => (r.ranges, r.acc)) == some ([(8, 13)], { s := 6, t := 23 }) &&
          (ctxOf t 0).map (fun c => (c.state, c.length, c.held)) == some (.ending, some 13, 1)) = true := by decide +kernel

/-- Arrival 4 of 2.7: a CHECK at the retired edge plus 64 is refused OUT_OF_WINDOW, without a notice. -/
theorem test_check_2_7_arrival_4 :
    ends .check (met (one (fresh 0)) (.check (chk 64 1 1)))
      (fun t =>
        t.disposition.map (fun d => d.code) == some .outOfWindow &&
          (ctxOf t 0).map (fun c => (c.lastRefusal, c.notices.protocol)) == some (some .outOfWindow, none)) = true := by
  decide +kernel

/-- 3.4, R71: a matching CHECK at AWAIT_CHECK seals; the last extent of an object without object check enters DONE. -/
theorem test_check_seals_and_completes :
    ends .check (met (bound (live ending8) (rec8 .awaitCheck)) (.check (chk 0 0 0)))
      (fun t =>
        t.ready[0] == [h0] && (ctxOf t 0).map (fun c => (c.state, c.edge, c.notices.done)) == some (.done, 1, some 1)) =
      true := by decide +kernel

/-- The state of 3.5.2: extent 7 LIVE with two ranges. -/
def last7 : State :=
  bound { fresh 0 with edge := 7, window := winSet { fresh 0 with edge := 7 } 7 .live, held := 1 }
    { newExtent 0 7 none with ranges := [(0, 200000), (204800, 300000)] }

/-- 3.5.2: the TRAILER with L = 7640032 is learned; the one with L = 7·1048576 + 250000 conflicts. -/
theorem test_trailer_3_5_2 :
    ends .trailer (met last7 (.trailer (trl 7640032 none)))
        (fun t => (ctxOf t 0).map (fun c => (c.state, c.length)) == some (.ending, some 7640032)) = true ∧
    ends .trailer (met last7 (.trailer (trl 7590032 none)))
        (fun t => t.disposition.map (fun d => d.code) == some .lengthConflict) = true := by decide +kernel

/-- R197: the link counts an arrival and a refused arrival. -/
theorem test_unknown_kind :
    ends .unknownKind (met State.reset (.unknown { kind := 0x7F, link := 3, tag := 5 }))
      (fun t => t.links[3].arrivals.value == 1 && t.links[3].refused.value == 1 &&
        t.disposition == some { code := .unknownKind, tag := 5, newBytes := 0, hole := none }) = true := by decide +kernel

/-- R29: the thirty-second arrival is placed, the next is not. -/
theorem test_arrival_delivery_stops_at_32 :
    ends (.arrivalDelivery (.check (chk 0 0 0)))
        { State.reset with inputQueue := List.replicate 31 (.check (chk 0 0 0)) } (fun t => stopAsserted t) = true ∧
    ends (.arrivalDelivery (.check (chk 0 0 0)))
        { State.reset with inputQueue := List.replicate 32 (.check (chk 1 0 0)) }
        (fun t => t.inputQueue.length == 32) = true := by decide +kernel

theorem test_disposition_accept :
    ends .dispositionAccept
      { State.reset with disposition := some { code := .late, tag := 1, newBytes := 0, hole := some .unknown } }
      (fun t => t.disposition.isNone && t.segmentOut.take 2 == [0x03, 1]) = true := by decide +kernel

/-! ## The control port -/

/-- R187: the seventeenth command sets the overrun flag. -/
theorem test_command_write_overrun :
    ends (.commandWrite { code := 1, tag := 0, args := [] })
      { State.reset with commands := List.replicate 16 { code := 0x30, tag := 1, args := [] } }
      (fun t => t.overrun && t.commands.length == 16) = true := by decide +kernel

theorem test_response_read_empty :
    ends .responseRead State.reset (fun t => t.controlOut == [0xFFFF, 0]) = true := by decide +kernel

/-- R190, 12.3: fifteen free command entries, no response, and an overrun flag that the read clears. -/
theorem test_port_status_read :
    ends .portStatusRead { told State.reset 0x30 [] with overrun := true }
      (fun t => t.controlOut == [15, 2] && !t.overrun) = true := by decide +kernel

theorem test_unknown_command :
    ends .unknownCommand (told State.reset 0x000F []) (fun t => lastReply t == some (.unknownCommand, [])) = true := by
  decide +kernel

/-- R8: L = 0 without an expected value and without object check is DONE at once; R6: retry limit 200 is clamped to 7. -/
theorem test_open_stream :
    ends .openStream (told State.reset 1 [0x42, 0x00100000, 0, 0, 0, 0, 0])
        (fun t => lastReply t == some (.ok, [0, 3])) = true ∧
    ends .openStream (told State.reset 1 [0x42, 0xC8C0030F, 0, 0, 0, 0, 0x00640028])
        (fun t => (ctxOf t 0).map (fun c => (c.group, c.queue, c.retryLimit, c.compareA, c.compareB)) ==
          some (15, 3, 7, 40, 100)) = true := by decide +kernel

theorem test_close_stream_waits_for_held_work :
    ends .closeStream (told (claimedOne (still .failed (some .stall))) 2 [0x42])
      (fun t => lastReply t == some (.busy, [])) = true := by decide +kernel

/-- The state of 1.3.2. -/
def abort132 : State :=
  { State.reset with
    contexts :=
      [(0, { fresh 0x0100 with
             state := .ending
             length := some 8388608
             edge := 5
             window := winSet { fresh 0 with edge := 5 } 6 .live
             held := 3 })]
    extents :=
      [(9, newExtent 0 6 none), (17, { newExtent 0 3 none with state := .claimed }),
       (40, { newExtent 0 4 none with state := .ready })]
    ready := #v[[], [{ slot := 112, gen := 0 }, { slot := 40, gen := 0 }, { slot := 55, gen := 0 }], [], []]
    claims := [{ slot := 17, gen := 0 }]
    freeSlots := [201] }

/-- 1.3.2: slots 9 and 40 are withdrawn, slot 17 stays, the stream is WITHDRAWING. -/
theorem test_abort_stream_1_3_2 :
    ends .abortStream (told abort132 3 [0x42])
      (fun t =>
        lastReply t == some (.ok, [5, 2]) && t.freeSlots == [201, 9, 40] && genOf t 9 == 1 && genOf t 40 == 1 &&
          t.ready[1].map (fun h => h.slot) == [112, 55] && (ctxOf t 0).map (fun c => c.held) == some 1) = true := by
  decide +kernel

/-- R16: the stream of group 2 is not a member of group 3. -/
theorem test_abort_group :
    ends .abortGroup (told (one (fresh 0x0002)) 4 [2])
        (fun t => lastReply t == some (.ok, [1]) &&
          (ctxOf t 0).map (fun c => (c.state, c.cause)) == some (.failed, some .aborted)) = true ∧
    ends .abortGroup (told (one (fresh 0x0002)) 4 [3])
        (fun t => lastReply t == some (.ok, [0])) = true := by decide +kernel

/-- R19, 12.3: forty-four result words; position 0 LIVE reads 1 in the first window word; the first hole is unknown. -/
theorem test_query_stream :
    ends .queryStream (told (bound (live (fresh 0)) (rec8 .filling)) 5 [0x42])
      (fun t => (lastReply t).map (fun r => (r.1, r.2.length, r.2.take 2, r.2.getD 13 0, r.2.drop 41)) ==
        some (.ok, 44, [0x42, 1], 1, [1, 0, 0])) = true := by decide +kernel

/-- R54's table: 3000000 and 5000 give E = 2 MiB, 1024 slots and low mark 1024. -/
theorem test_configure_pool :
    ends .configurePool (told State.reset 8 [3000000, 5000])
      (fun t => lastReply t == some (.ok, [2097152, 1024, 1024]) && freeCount t == 1024) = true := by decide +kernel

/-- R99, R110: an unequal value at AWAIT_CHECK resets the extent and keeps the value. -/
theorem test_supply_check_retry :
    ends .supplyCheck (told (bound (live ending8) (rec8 .awaitCheck)) 6 [0x42, 0, 5, 6])
      (fun t =>
        lastReply t == some (.ok, [2, 2]) &&
          (tabGet t.extents 0).map (fun r => (r.state, r.ranges, r.retries, r.expected)) ==
            some (.filling, [], 1, some { s := 5, t := 6 })) = true := by decide +kernel

/-- R102: the value that a complete object waited for takes the stream to DONE, an unequal one to FAILED. -/
theorem test_supply_object_check :
    ends .supplyObjectCheck (told (one { ending8 with edge := 1, objectCheck := true }) 7 [0x42, 0, 0])
        (fun t => lastReply t == some (.ok, [3])) = true ∧
    ends .supplyObjectCheck (told (one { ending8 with edge := 1, objectCheck := true }) 7 [0x42, 0, 1])
        (fun t => lastReply t == some (.ok, [4])) = true := by decide +kernel

/-- R130: with A = 0 and B = 9 the timer starts in ABANDON. -/
theorem test_set_stream_timers :
    ends .setStreamTimers (told (one { fresh 0 with count := 7 }) 0x000C [0x42, 0, 9])
      (fun t => lastReply t == some (.ok, [2]) &&
        (ctxOf t 0).map (fun c => (c.compareA, c.compareB, c.count)) == some (0, 9, 0)) = true := by decide +kernel

theorem test_set_group_timers :
    ends .setGroupTimers (told (one (fresh 0x0005)) 0x000D [5, 40, 100])
      (fun t => lastReply t == some (.ok, [1]) &&
        (ctxOf t 0).map (fun c => (c.compareA, c.compareB)) == some (40, 100)) = true := by decide +kernel

/-- R196: bits of an argument word above its width are ignored. -/
theorem test_set_timer_defaults :
    ends .setTimerDefaults (told State.reset 0x000E [0xABCD0028, 100])
      (fun t => lastReply t == some (.ok, [40, 100]) && t.defaultA == 40) = true := by decide +kernel

/-- R136: weight 200 is taken as 127 and watermark 0 as 1. -/
theorem test_set_queue :
    ends .setQueue (told State.reset 0x0010 [3, 200, 0, 0, 1])
      (fun t => lastReply t == some (.ok, [127, 0, 1, 1]) && t.params[3].mode == .padded) = true := by decide +kernel

/-- Step 10 of 7.11. -/
theorem test_release_hold :
    ends .releaseHold (told { readyOne (fresh 0) with hold := #v[true, true, false, false] } 0x0011 [0])
      (fun t => lastReply t == some (.ok, [1]) && t.hold == #v[false, true, false, false]) = true := by decide +kernel

theorem test_drain_status :
    ends .drainStatus (told { claimedOne (fresh 0) with hold := #v[false, true, true, false] } 0x0012 [])
      (fun t => lastReply t == some (.ok, [0, 0, 0, 0, 6, 63])) = true := by decide +kernel

theorem test_set_store_limit :
    ends .setStoreLimit (told State.reset 0x0013 [0]) (fun t => t.storeLimit == 1) = true ∧
    ends .setStoreLimit (told State.reset 0x0013 [8]) (fun t => t.storeLimit == 7) = true := by decide +kernel

/-- Two streams with the flags of classes 7 and 1 set, all classes unmasked but 3, 4 and 6 (9.6). -/
def flagged : State :=
  { one { fresh 0 with notices := { Notices.clear with done := some 3, retry := some 17 } } with
    masked := #v[false, false, false, true, true, false, true, false] }

/-- 9.6: class 1 goes before class 7; with class 1 in service the line is low. -/
theorem test_ack_attention :
    ends .ackAttention (told flagged 0x0018 [])
      (fun t => lastReply t == some (.ok, [1, 1]) && !attentionLine t && t.inService[1]) = true := by decide +kernel

/-- Event 9 of 9.6: the end of service of class 0 clears the holds. -/
theorem test_end_attention :
    ends .endAttention
      (told { flagged with inService := #v[true, false, false, false, false, false, false, false],
                           hold := #v[false, false, true, false] } 0x0019 [0])
      (fun t => lastReply t == some (.ok, []) && !t.hold[2] && !t.inService[0]) = true := by decide +kernel

theorem test_set_class_in_service_busy :
    ends .setClass (told { State.reset with inService := #v[false, true, false, false, false, false, false, false] }
        0x001A [1, 3, 0])
      (fun t => lastReply t == some (.busy, []) && t.priority[1] == 1) = true := by decide +kernel

theorem test_set_threshold :
    ends .setThreshold (told State.reset 0x001B [9]) (fun t => lastReply t == some (.ok, [7])) = true ∧
    ends .setThreshold (told State.reset 0x001B [0]) (fun t => t.threshold == 0) = true := by decide +kernel

/-- Event 12 of 9.6: the tag with detail 3, no more remain, and the flag is cleared. -/
theorem test_fetch_notices :
    ends .fetchNotices (told flagged 0x001C [7, 8])
      (fun t => lastReply t == some (.ok, [1, 0, 0x42, 0, 3, 0]) && !classPending t 7 && classPending t 1) = true := by
  decide +kernel

/-- R182: a counter that reaches its maximum saturates, and a clear resets value and flag. -/
theorem test_read_stream_counters :
    Counter.add Config.max16 { value := 65534, saturated := false } 1 = { value := 65535, saturated := true } ∧
    ends .readStreamCounters
        (told
          (one { fresh 0 with
                 counters := { StreamCounters.zero with
                   accepted := { value := 2 ^ 32 + 5, saturated := false }
                   retries := { value := 65535, saturated := true } } })
          0x0020 [0x42, 1])
        (fun t => lastReply t == some (.ok, [5, 1, 0, 0, 0, 65535, 0, 8]) &&
          (ctxOf t 0).map (fun c => c.counters) == some StreamCounters.zero) = true := by decide +kernel

theorem test_snapshot :
    ends .snapshot (told (claimedOne (still .failed (some .stall))) 0x0021 [0])
      (fun t => lastReply t == some (.ok, []) &&
        t.copy.map (fun v => (v.freeSlots, v.claims, v.free, v.failed)) == some (2047, 1, 1023, 1)) = true := by
  decide +kernel

/-- 12.3: 32 words of link counters, one of saturated flags, then 1, 4, 1 and 6 counts. -/
theorem test_read_snapshot :
    ends .readSnapshot (told { State.reset with unread := true, area := { SnapshotValues.zero with freeSlots := 9 } }
      0x0022 [])
      (fun t => (lastReply t).map (fun r => (r.2.length, r.2.getD 33 0)) == some (45, 9) && !t.unread) = true := by
  decide +kernel

theorem test_snapshot_completion :
    ends .snapshotCompletion { State.reset with copy := some { SnapshotValues.zero with claims := 4 } }
      (fun t => t.copy.isNone && t.unread && t.area.claims == 4) = true := by decide +kernel

theorem test_query_engine :
    ends .queryEngine (told State.reset 0x0030 [])
      (fun t => lastReply t == some (.ok, [0x5A460001, 2048, 1048576, 2048])) = true := by decide +kernel

/-- R194: the bound slot's generation advances; the threshold is kept. -/
theorem test_reset_engine :
    ends .resetEngine (told { claimedOne (fresh 0) with threshold := 3, overrun := true } 0x0031 [])
      (fun t => genOf t 0 == 1 && t.claims.isEmpty && t.contexts.isEmpty && freeCount t == 2048 && t.threshold == 3 &&
        !t.overrun && lastReply t == some (.ok, [])) = true := by decide +kernel

/-! ## The drain port and the events -/

/-- R144: one descriptor and an END record in TERMINATED mode; a held queue in PADDED mode gives fillers. -/
theorem test_read_ready :
    ends (.readReady 0 8) (readyOne ending8)
        (fun t =>
          (match t.drainAnswer with
            | some (.records [.extent d, .endRecord]) => d.handle == h0 && d.last && d.unchecked && d.length == 8
            | _ => false) && t.claims == [h0] && t.ready[0].isEmpty) = true ∧
    ends (.readReady 0 2)
        { readyOne ending8 with
          hold := #v[true, false, false, false]
          params := #v[{ QueueParams.powerOn with mode := .padded }, .powerOn, .powerOn, .powerOn] }
        (fun t => t.drainAnswer == some (.records [.filler, .filler]) && t.claims.isEmpty) = true := by decide +kernel

/-- R162: the walk hands out one descriptor, then walks an empty pass of four positions. -/
theorem test_chain_read :
    ends (.chainRead 5) (readyOne ending8)
      (fun t =>
        (match t.drainAnswer with
          | some (.records [.extent d, .endRecord]) => d.handle == h0
          | _ => false) && t.cursor == { round := 1, queue := 1 }) = true := by decide +kernel

/-- R147: from offset 6 of an extent of length 8, two bytes; offset 8 is BAD_OFFSET. -/
theorem test_read_data :
    ends (.readData h0 6 100) { claimedOne ending8 with mem := [(7, 0xAB)] }
        (fun t => t.drainAnswer == some (.data [0, 0xAB])) = true ∧
    ends (.readData h0 8 1) (claimedOne ending8) (fun t => t.drainAnswer == some (.status .badOffset)) = true := by
  decide +kernel

/-- Steps 3 and 7 of 7.11: STORED frees the record; FAILED_STORE at the store limit fails the stream. -/
theorem test_release :
    ends (.release h0 .stored) (claimedOne ending8)
        (fun t => t.drainAnswer == some (.status .released) && genOf t 0 == 1 && t.freeSlots.getLast? == some 0 &&
          (ctxOf t 0).map (fun c => c.held) == some 0) = true ∧
    ends (.release h0 .failedStore) { claimedOne ending8 with storeLimit := 1 }
        (fun t => t.drainAnswer == some (.status .releasedFailed) &&
          (ctxOf t 0).map (fun c => (c.state, c.cause, c.phase)) == some (.failed, some .store, .off)) = true := by
  decide +kernel

theorem test_drain_status_request :
    ends .drainStatusRequest (readyOne ending8)
      (fun t => t.drainAnswer ==
        some (.summary { ready := [1, 0, 0, 0], hold := [false, false, false, false], freeClaims := 64 })) = true := by
  decide +kernel

theorem test_unknown_request :
    ends (.unknownRequest 0x06) State.reset (fun t => t.drainAnswer == some (.status .unknownRequest)) = true := by
  decide +kernel

/-- 12.2: the status record of RELEASED. -/
theorem test_drain_answer_accept :
    ends .drainAnswerAccept { State.reset with drainAnswer := some (.status .released) }
      (fun t => t.drainAnswer.isNone && t.drainOut == [1, 0, 0, 0, 0, 0, 0, 0]) = true := by decide +kernel

/-- Tick 65 of 6.7: the count reaches 40 and the timer moves to ABANDON with the STALL notice. -/
theorem test_timer_advance :
    ends (.timerAdvance 0) (one { fresh 0 with compareA := 40, compareB := 100, count := 39 })
      (fun t => (ctxOf t 0).map (fun c => (c.count, c.phase, c.notices.stall)) ==
        some (0, .abandon, some .unknown)) = true := by decide +kernel

theorem test_gap_expiry_with_no_abandon :
    ends (.gapExpiry 0) (one { fresh 0 with compareA := 40, compareB := 0, count := 39 })
      (fun t => (ctxOf t 0).map (fun c => (c.count, c.phase)) == some (0, .off)) = true := by decide +kernel

/-- Tick 240 of 6.7: the stream fails with cause STALL and its FILLING record is freed. -/
theorem test_abandon_expiry :
    ends (.abandonExpiry 0)
      (bound { live (fresh 0) with compareB := 100, count := 99, phase := .abandon } (rec8 .filling))
      (fun t => (ctxOf t 0).map (fun c => (c.state, c.cause, c.count, c.held)) == some (.failed, some .stall, 100, 0) &&
        t.freeSlots.getLast? == some 0) = true := by decide +kernel

/-- R62: power-on keeps the bytes of the slots and nothing else. -/
theorem test_power_on :
    ends .powerOn { claimedOne (fresh 0) with mem := [(3, 1)], overrun := true }
      (fun t => t == { State.reset with mem := [(3, 1)] }) = true := by decide +kernel

/-! ## Witnesses: for each statement with hypotheses, states and operands that meet them, clause by clause -/

theorem pool_reset : PoolTrue State.reset :=
  ⟨by decide +kernel, by simp [PoolAccounted, State.reset, slotCount], by decide +kernel⟩

theorem pool_one (c : Context) (h : c.held = 0) : PoolTrue (one c) :=
  ⟨by simp [TablesCanonical, one, State.reset, tabWf, tabRising, Config.contextCount],
    by simp [PoolAccounted, one, State.reset, slotCount],
    by simp [HeldCounted, one, State.reset, recordsOf, h]⟩

theorem pool_bound (c : Context) (r : Extent) (h : c.held = 1) (hr : r.stream = 0) : PoolTrue (bound c r) :=
  ⟨by simp [TablesCanonical, bound, one, State.reset, tabWf, tabRising, Config.contextCount],
    by
      have e : List.range 2048 = [0] ++ List.range' 1 2047 := by decide +kernel
      simp only [PoolAccounted, bound, one, State.reset, slotCount, List.map, e]
      exact List.perm_append_comm,
    by simp [HeldCounted, bound, one, State.reset, recordsOf, ctxOf, tabGet, h, hr]⟩

theorem pool_met {s : State} (h : PoolTrue s) (a : Arrival) : PoolTrue (met s a) := h

theorem pool_told {s : State} (h : PoolTrue s) (code : BitVec 16) (args : List Word) : PoolTrue (told s code args) := h

theorem pool_limit {s : State} (h : PoolTrue s) (n : Nat) : PoolTrue { s with storeLimit := n } := h

theorem witness_StepRunsFrontCommand :
    ({ State.reset with pending := [.segment, .check] } : State).pending = .segment :: [.check] ∧
      State.reset.pending = [] := by decide

theorem witness_EveryCommandCompletes : PoolAccounted State.reset := pool_reset.2.1

theorem witness_SegmentPortHandshakes :
    ({ State.reset with inputQueue := List.replicate 31 (.check (chk 0 0 0)) } : State).inputQueue.length < 32 ∧
    32 ≤ ({ State.reset with inputQueue := List.replicate 32 (.check (chk 0 0 0)) } : State).inputQueue.length ∧
    ({ State.reset with disposition := some { code := .late, tag := 1, newBytes := 0, hole := none } } : State).disposition =
      some { code := .late, tag := 1, newBytes := 0, hole := none } ∧
    State.reset.disposition = none ∧ State.reset.inputQueue = [] := by decide

theorem witness_UnknownKindAnswered :
    ((0 : BitVec 256).extractLsb' 0 8 ≠ 0x01 ∧ (0 : BitVec 256).extractLsb' 0 8 ≠ 0x02 ∧
      (0 : BitVec 256).extractLsb' 0 8 ≠ 0x03) ∧
    AtHead (met State.reset (.unknown { kind := 4, link := 3, tag := 5 })) (.unknown { kind := 4, link := 3, tag := 5 }) [] := by
  decide +kernel

/-- The SEGMENT `a` is the arrival at the head of the input queue, and stream 0 with context `c` is its stream. -/
abbrev SegmentFor (s : State) (c : Context) (a : SegmentArrival) : Prop :=
  AtHead (met s (.segment a)) (.segment a) [] ∧ lookupTag (met s (.segment a)) a.tag = some (0, c)

theorem witness_RefusedSegment_by_state :
    (AtHead (met State.reset (.segment (seg 0 false []))) (.segment (seg 0 false [])) [] ∧
      lookupTag (met State.reset (.segment (seg 0 false []))) 0x42 = none) ∧
    SegmentFor (one (still .failed (some .stall))) (still .failed (some .stall)) (seg 0 false [1, 2, 3, 4]) ∧
    SegmentFor (one (still .withdrawing (some .aborted))) (still .withdrawing (some .aborted)) (seg 0 false [1, 2, 3, 4]) := by
  decide +kernel

/-- MISALIGNED at offset 2; BAD_LENGTH at payload lengths 0, 16385 and, without FINAL, 2. -/
theorem witness_RefusedSegment_by_format :
    (SegmentFor (one (fresh 0)) (fresh 0) (seg 2 false []) ∧ (fresh 0).state = .opened ∧ (2 : BitVec 48).toNat % 4 ≠ 0) ∧
    (SegmentFor (one (fresh 0)) (fresh 0) (seg 4 false []) ∧ (4 : BitVec 48).toNat % 4 = 0) ∧
    (SegmentFor (one (fresh 0)) (fresh 0) (seg 4 false (List.replicate 16385 0)) ∧
      16384 < (List.replicate 16385 (0 : Byte)).length) ∧
    (SegmentFor (one (fresh 0)) (fresh 0) (seg 4 false [1, 2]) ∧ [(1 : Byte), 2].length % 4 ≠ 0) :=
  ⟨by decide +kernel, by decide +kernel, ⟨⟨⟨rfl, rfl⟩, by decide +kernel⟩, by decide +kernel⟩,
    by decide +kernel⟩

/-- BEYOND_END at 2^44 + 4 and, with L = 8, at 12; LENGTH_CONFLICT of a FINAL end 4 with L = 8 and with a range that ends
at 8 while L is unknown. -/
theorem witness_RefusedSegment_by_length :
    (SegmentFor (one (fresh 0)) (fresh 0) (seg 0xFFFFFFFFFFC false (List.replicate 8 0)) ∧
      2 ^ 44 < (0xFFFFFFFFFFC : BitVec 48).toNat + 8) ∧
    (SegmentFor (one ending8) ending8 (seg 8 false (List.replicate 4 0)) ∧ ending8.length = some 8 ∧ 8 < 8 + 4) ∧
    (SegmentFor (one ending8) ending8 (seg 0 true (List.replicate 4 0)) ∧ 0 + 4 ≠ 8) ∧
    (SegmentFor (bound (live (fresh 0)) (rec8 .filling)) (live (fresh 0)) (seg 0 true (List.replicate 4 0)) ∧
      (live (fresh 0)).length = none ∧
      lengthConflict (met (bound (live (fresh 0)) (rec8 .filling)) (.segment (seg 0 true (List.replicate 4 0)))) 0
        (live (fresh 0)) 4 = true) := by
  decide +kernel

/-- A record with eight fill ranges. -/
def rec8ranges : Extent :=
  { newExtent 0 0 none with
    ranges := [(0, 4), (8, 12), (16, 20), (24, 28), (32, 36), (40, 44), (48, 52), (56, 60)] }

/-- OUT_OF_WINDOW at the retired edge plus 64; RANGE_LIMIT at a ninth range; NO_SLOT with an empty free-slot list. -/
theorem witness_RefusedSegment_by_room :
    (SegmentFor (one (fresh 0)) (fresh 0) (seg 67108864 false [1, 2, 3, 4]) ∧
      segmentLength (one (fresh 0)) 0 (fresh 0) (seg 67108864 false [1, 2, 3, 4]) = none ∧
      ∃ q ∈ placedPieces (one (fresh 0)) 0 (fresh 0) (seg 67108864 false [1, 2, 3, 4]), 0 + 64 ≤ q.1.index) ∧
    (SegmentFor (bound (live (fresh 0)) rec8ranges) (live (fresh 0)) (seg 64 false [1, 2, 3, 4]) ∧
      (∃ q ∈ placedPieces (bound (live (fresh 0)) rec8ranges) 0 (live (fresh 0)) (seg 64 false [1, 2, 3, 4]),
        overRangeLimit q.1 q.2 = true) ∧
      ∀ q ∈ placedPieces (bound (live (fresh 0)) rec8ranges) 0 (live (fresh 0)) (seg 64 false [1, 2, 3, 4]),
        q.1.index < 0 + 64) ∧
    (SegmentFor { one (fresh 0) with freeSlots := [] } (fresh 0) (seg 66060288 false [1, 2, 3, 4]) ∧
      (∀ q ∈ placedPieces (one (fresh 0)) 0 (fresh 0) (seg 66060288 false [1, 2, 3, 4]),
        q.1.index < 0 + 64 ∧ overRangeLimit q.1 q.2 = false) ∧
      0 < ((placedPieces (one (fresh 0)) 0 (fresh 0) (seg 66060288 false [1, 2, 3, 4])).filter
        (fun q => q.2 == .absent)).length) := by
  decide +kernel

/-- The places of R42: below the retired edge, at a SEALED, a LIVE and an ABSENT position. -/
theorem witness_RefusedSegment_places :
    (PoolTrue (one { fresh 0 with edge := 1 }) ∧ WindowsTrue (one { fresh 0 with edge := 1 }) ∧
      ctxOf (one { fresh 0 with edge := 1 }) 0 = some { fresh 0 with edge := 1 } ∧ 0 < ({ fresh 0 with edge := 1 } : Context).edge) ∧
    (PoolTrue (one { fresh 0 with window := winSet (fresh 0) 1 .sealed }) ∧
      WindowsTrue (one { fresh 0 with window := winSet (fresh 0) 1 .sealed }) ∧
      winGet { fresh 0 with window := winSet (fresh 0) 1 .sealed } 1 = .sealed) ∧
    (PoolTrue (bound (live (fresh 0)) rec8ranges) ∧ WindowsTrue (bound (live (fresh 0)) rec8ranges) ∧
      winGet (live (fresh 0)) 0 = .live ∧ winGet (live (fresh 0)) 63 = .absent ∧ (live (fresh 0)).edge ≤ 63 ∧
      rangesFrom 0 rec8ranges.ranges = true) :=
  ⟨⟨pool_one _ rfl, by decide +kernel⟩, ⟨pool_one _ rfl, by decide +kernel⟩,
    ⟨pool_bound _ _ rfl rfl, by decide +kernel⟩⟩

/-- A part with the one stream `c` meets StreamsTrue where `c` does. -/
theorem streams_of {s : State} {c : Context} (h : s.contexts = [(0, c)]) (st : StateTrue s 0 c) (l : LengthTrue s 0 c) :
    StreamsTrue s := by
  intro y hy
  rw [h, List.mem_singleton] at hy
  subst hy
  exact ⟨st, l⟩

/-- The admitted SEGMENT `a` of stream 0 with context `c`, with its targets: what the statements of its effects assume. -/
abbrev AdmittedFor (s : State) (c : Context) (a : SegmentArrival) (ts : List Target) : Prop :=
  SegmentFor s c a ∧ WindowsTrue (met s (.segment a)) ∧ c.state ≠ .failed ∧ c.state ≠ .withdrawing ∧
    (segmentAdmission (met s (.segment a)) 0 c a).toOption = some ts

/-- A stream in DONE with its one extent behind the retired edge. -/
def doneOne : Context := { still .done none with edge := 1 }

/-- A piece in an ABSENT position. -/
theorem witness_AdmittedSegmentStoresPayload :
    AdmittedFor (one (fresh 0)) (fresh 0) (seg 4 false [1, 2, 3, 4])
      [{ piece := { index := 0, start := 4, stop := 8 }, slot := 0, fresh := true, runs := [(4, 8)] }] ∧
    PoolTrue (met (one (fresh 0)) (.segment (seg 4 false [1, 2, 3, 4]))) ∧
    StreamsTrue (met (one (fresh 0)) (.segment (seg 4 false [1, 2, 3, 4]))) :=
  ⟨by decide +kernel, pool_met (pool_one _ rfl) _, streams_of rfl ⟨rfl, rfl⟩ nofun⟩

/-- A DUPLICATE on a stream in DONE. -/
theorem witness_AdmittedSegment_duplicate :
    AdmittedFor (one doneOne) doneOne (seg 4 true [1, 2, 3, 4]) [] ∧ doneOne.length ≠ none ∧
    PoolTrue (met (one doneOne) (.segment (seg 4 true [1, 2, 3, 4]))) ∧
    StreamsTrue (met (one doneOne) (.segment (seg 4 true [1, 2, 3, 4]))) :=
  ⟨by decide +kernel, nofun, pool_met (pool_one _ rfl) _,
    streams_of rfl ⟨rfl, rfl, rfl, by decide +kernel⟩ fun l hl => by obtain rfl : 8 = l := Option.some.inj hl; decide +kernel⟩

/-- A piece in a LIVE record, four of its eight bytes new: its range ends at 12 afterwards. -/
theorem witness_AdmittedSegment_live :
    let g : Target := { piece := { index := 0, start := 4, stop := 12 }, slot := 0, fresh := false, runs := [(8, 12)] }
    let a := seg 4 false [1, 2, 3, 4, 5, 6, 7, 8]
    AdmittedFor (bound (live (fresh 0)) (rec8 .filling)) (live (fresh 0)) a [g] ∧
    PoolTrue (met (bound (live (fresh 0)) (rec8 .filling)) (.segment a)) ∧
    StreamsTrue (met (bound (live (fresh 0)) (rec8 .filling)) (.segment a)) ∧
    recordBefore (met (bound (live (fresh 0)) (rec8 .filling)) (.segment a)) 0 g = some (rec8 .filling) ∧
    (recordWritten (extentBytes .m1) a g (rec8 .filling)).ranges = [(0, 12)] ∧
    RangesTrue (met (bound (live (fresh 0)) (rec8 .filling)) (.segment a)) :=
  ⟨by decide +kernel, pool_met (pool_bound _ _ rfl rfl) _, streams_of rfl ⟨rfl, rfl⟩ nofun, by decide +kernel,
    by decide +kernel, by decide +kernel⟩

/-- Two pieces, each in an ABSENT position. -/
theorem witness_AdmittedSegment_two_pieces :
    AdmittedFor (one (fresh 0)) (fresh 0) (seg 1048572 false [1, 2, 3, 4, 5, 6, 7, 8])
      [{ piece := { index := 0, start := 1048572, stop := 1048576 }, slot := 0, fresh := true, runs := [(1048572, 1048576)] },
       { piece := { index := 1, start := 0, stop := 4 }, slot := 1, fresh := true, runs := [(0, 4)] }] ∧
    PoolTrue (met (one (fresh 0)) (.segment (seg 1048572 false [1, 2, 3, 4, 5, 6, 7, 8]))) ∧
    StreamsTrue (met (one (fresh 0)) (.segment (seg 1048572 false [1, 2, 3, 4, 5, 6, 7, 8]))) :=
  ⟨by decide +kernel, pool_met (pool_one _ rfl) _, streams_of rfl ⟨rfl, rfl⟩ nofun⟩

/-- A FINAL segment that teaches L = 9. -/
theorem witness_AdmittedSegment_final :
    AdmittedFor (one (fresh 0)) (fresh 0) (seg 4 true [1, 2, 3, 4, 5])
      [{ piece := { index := 0, start := 4, stop := 9 }, slot := 0, fresh := true, runs := [(4, 9)] }] ∧
    PoolTrue (met (one (fresh 0)) (.segment (seg 4 true [1, 2, 3, 4, 5]))) ∧
    StreamsTrue (met (one (fresh 0)) (.segment (seg 4 true [1, 2, 3, 4, 5]))) :=
  ⟨by decide +kernel, pool_met (pool_one _ rfl) _, streams_of rfl ⟨rfl, rfl⟩ nofun⟩

/-- A segment on a stream in ENDING. -/
theorem witness_AdmittedSegment_ending :
    AdmittedFor (one ending8) ending8 (seg 4 true [1, 2, 3, 4])
      [{ piece := { index := 0, start := 4, stop := 8 }, slot := 0, fresh := true, runs := [(4, 8)] }] ∧
    PoolTrue (met (one ending8) (.segment (seg 4 true [1, 2, 3, 4]))) ∧
    StreamsTrue (met (one ending8) (.segment (seg 4 true [1, 2, 3, 4]))) :=
  ⟨by decide +kernel, pool_met (pool_one _ rfl) _,
    streams_of rfl ⟨rfl, rfl⟩ fun l hl => by obtain rfl : 8 = l := Option.some.inj hl; decide +kernel⟩

/-- The last position of the window, extent 63. The clause of any admitted SEGMENT is met by the witnesses above. -/
theorem witness_NewPieceBindsHeadSlot :
    SegmentFor (one (fresh 0)) (fresh 0) (seg 66060288 false [1, 2, 3, 4]) ∧ (fresh 0).state = .opened ∧
      (fresh 0).length = none ∧ 63 * 1048576 ≤ 66060288 ∧ 66060288 + 4 ≤ 64 * 1048576 ∧ (fresh 0).edge ≤ 63 ∧
      63 < (fresh 0).edge + 64 ∧ winGet (fresh 0) 63 = .absent ∧ (one (fresh 0)).freeSlots = 0 :: List.range' 1 2047 := by
  decide +kernel

/-- The CHECK `a` is the arrival at the head of the input queue, and stream 0 with context `c` is its stream. -/
abbrev CheckFor (s : State) (c : Context) (a : CheckArrival) : Prop :=
  AtHead (met s (.check a)) (.check a) [] ∧ lookupTag (met s (.check a)) a.tag = some (0, c)

/-- A FILLING record that holds the value (5, 6). -/
def valued : Extent := { rec8 .filling with expected := some { s := 5, t := 6 } }

theorem witness_CheckAnswers_by_state :
    lookupTag (met State.reset (.check (chk 0 0 0))) 0x42 = none ∧
    CheckFor (one (still .failed (some .stall))) (still .failed (some .stall)) (chk 0 0 0) ∧
    CheckFor (one (still .withdrawing (some .aborted))) (still .withdrawing (some .aborted)) (chk 0 0 0) ∧
    CheckFor (one (still .done none)) (still .done none) (chk 0 0 0) ∧
    (CheckFor (one (fresh 0)) (fresh 0) (chk 0 2147483647 0) ∧ Config.modulus ≤ (2147483647 : Word).toNat) := by
  decide +kernel

/-- BEYOND_END at 2^44 / E and at N; OUT_OF_WINDOW at the edge plus 64; LATE below the edge and at a SEALED position;
DUPLICATE and CHECK_CONFLICT at a held value; NO_SLOT at the last position of the window. -/
theorem witness_CheckAnswers_by_place :
    (CheckFor (one (fresh 0)) (fresh 0) (chk 16777216 0 0) ∧ 2 ^ 44 / extentBytes .m1 ≤ (16777216 : Word).toNat) ∧
    (CheckFor (one ending8) ending8 (chk 1 0 0) ∧ ending8.length = some 8 ∧ extentCount (extentBytes .m1) 8 ≤ 1) ∧
    (CheckFor (one (fresh 0)) (fresh 0) (chk 64 0 0) ∧ (fresh 0).edge + 64 ≤ 64) ∧
    (CheckFor (one { fresh 0 with edge := 1 }) { fresh 0 with edge := 1 } (chk 0 0 0) ∧ 0 < 1) ∧
    (CheckFor (one { fresh 0 with window := winSet (fresh 0) 1 .sealed }) { fresh 0 with window := winSet (fresh 0) 1 .sealed }
        (chk 1 0 0) ∧
      winGet { fresh 0 with window := winSet (fresh 0) 1 .sealed } 1 = .sealed) ∧
    (CheckFor (bound (live (fresh 0)) valued) (live (fresh 0)) (chk 0 5 6) ∧
      CheckFor (bound (live (fresh 0)) valued) (live (fresh 0)) (chk 0 5 7) ∧ winGet (live (fresh 0)) 0 = .live ∧
      unsealedRecord (bound (live (fresh 0)) valued) 0 0 = some (0, valued) ∧
      valued.expected = some (pcvOfWords 5 6) ∧ valued.expected ≠ some (pcvOfWords 5 7)) ∧
    (CheckFor { one (fresh 0) with freeSlots := [] } (fresh 0) (chk 63 0 0) ∧ winGet (fresh 0) 63 = .absent) := by
  decide +kernel

theorem pool_live (c : Context) (r : Extent) (hr : r.stream = 0) : PoolTrue (bound (live c) r) :=
  pool_bound (live c) r rfl hr

/-- The five cases: an ABSENT position, a FILLING record without a value, and at AWAIT_CHECK an equal value, an unequal one
with a retry left, and an unequal one with none. -/
theorem witness_CheckStoresAndCompares :
    (CheckFor (one (fresh 0)) (fresh 0) (chk 63 2147483646 0) ∧ PoolTrue (met (one (fresh 0)) (.check (chk 63 2147483646 0))) ∧
      WindowsTrue (met (one (fresh 0)) (.check (chk 63 2147483646 0))) ∧ winGet (fresh 0) 63 = .absent) ∧
    (CheckFor (bound (live ending8) (rec8 .filling)) (live ending8) (chk 0 0 0) ∧
      PoolTrue (met (bound (live ending8) (rec8 .filling)) (.check (chk 0 0 0))) ∧
      WindowsTrue (met (bound (live ending8) (rec8 .filling)) (.check (chk 0 0 0))) ∧ (rec8 .filling).expected = none) ∧
    (CheckFor (bound (live ending8) (rec8 .awaitCheck)) (live ending8) (chk 0 0 0) ∧
      PoolTrue (met (bound (live ending8) (rec8 .awaitCheck)) (.check (chk 0 0 0))) ∧
      WindowsTrue (met (bound (live ending8) (rec8 .awaitCheck)) (.check (chk 0 0 0))) ∧
      unsealedRecord (bound (live ending8) (rec8 .awaitCheck)) 0 0 = some (0, rec8 .awaitCheck) ∧
      (rec8 .awaitCheck).acc = pcvOfWords 0 0 ∧ (rec8 .awaitCheck).acc ≠ pcvOfWords 0 1 ∧
      (rec8 .awaitCheck).retries < (live ending8).retryLimit) ∧
    (CheckFor (bound (live ending8) { rec8 .awaitCheck with retries := 3 }) (live ending8) (chk 0 0 1) ∧
      PoolTrue (met (bound (live ending8) { rec8 .awaitCheck with retries := 3 }) (.check (chk 0 0 1))) ∧
      WindowsTrue (met (bound (live ending8) { rec8 .awaitCheck with retries := 3 }) (.check (chk 0 0 1))) ∧
      (live ending8).retryLimit ≤ 3) :=
  ⟨⟨by decide +kernel, pool_met (pool_one _ rfl) _, by decide +kernel, by decide +kernel⟩,
    ⟨by decide +kernel, pool_met (pool_live _ _ rfl) _, by decide +kernel, by decide +kernel⟩,
    ⟨by decide +kernel, pool_met (pool_live _ _ rfl) _, by decide +kernel, by decide +kernel⟩,
    ⟨by decide +kernel, pool_met (pool_live _ _ rfl) _, by decide +kernel, by decide +kernel⟩⟩

/-- The TRAILER `a` is the arrival at the head of the input queue, and stream 0 with context `c` is its stream. -/
abbrev TrailerFor (s : State) (c : Context) (a : TrailerArrival) : Prop :=
  AtHead (met s (.trailer a)) (.trailer a) [] ∧ lookupTag (met s (.trailer a)) a.tag = some (0, c)

theorem witness_TrailerAnswers :
    lookupTag (met State.reset (.trailer (trl 0 none))) 0x42 = none ∧
    TrailerFor (one (still .failed (some .stall))) (still .failed (some .stall)) (trl 0 none) ∧
    TrailerFor (one (still .withdrawing (some .aborted))) (still .withdrawing (some .aborted)) (trl 0 none) ∧
    (TrailerFor (one (fresh 0)) (fresh 0) (trl 0x100000000001 none) ∧ 2 ^ 44 < (0x100000000001 : BitVec 48).toNat) ∧
    (TrailerFor (one (fresh 0)) (fresh 0) (trl 0x100000000000 (some (0, 2147483647))) ∧
      Config.modulus ≤ (2147483647 : Word).toNat) ∧
    (TrailerFor (one ending8) ending8 (trl 9 none) ∧ ending8.length = some 8) ∧
    (TrailerFor (bound (live (fresh 0)) (rec8 .filling)) (live (fresh 0)) (trl 7 none) ∧
      lengthConflict (met (bound (live (fresh 0)) (rec8 .filling)) (.trailer (trl 7 none))) 0 (live (fresh 0)) 7 = true) ∧
    (TrailerFor (one { ending8 with expected := some { s := 1, t := 1 } }) { ending8 with expected := some { s := 1, t := 1 } }
      (trl 8 (some (1, 2))) ∧ ({ s := 1, t := 1 } : Pcv) ≠ pcvOfWords 1 2) ∧
    (TrailerFor (one (still .done none)) (still .done none) (trl 8 (some (1, 2))) ∧ (still .done none).expected = none) ∧
    (TrailerFor (one ending8) ending8 (trl 8 none) ∧ (trl 8 none).pcv = none) := by
  decide +kernel

/-- A stream in OPEN without a record, at the largest L; the value given is stored, and one already held is met again. -/
theorem witness_TrailerLearnsLength :
    (TrailerFor (one (fresh 0)) (fresh 0) (trl 0x100000000000 (some (2147483646, 0))) ∧ (fresh 0).state = .opened ∧
      (fresh 0).length = none ∧ (2147483646 : Word).toNat < Config.modulus ∧ (fresh 0).expected = none ∧
      lengthConflict (met (one (fresh 0)) (.trailer (trl 0x100000000000 (some (2147483646, 0))))) 0 (fresh 0) (2 ^ 44) = false ∧
      (fresh 0).edge < extentCount (extentBytes .m1) (2 ^ 44) ∧
      findUnsealed (one (fresh 0)) 0 (extentCount (extentBytes .m1) (2 ^ 44) - 1) = none) ∧
    (TrailerFor (one { fresh 0 with expected := some { s := 1, t := 2 } }) { fresh 0 with expected := some { s := 1, t := 2 } }
        (trl 1 (some (1, 2))) ∧
      ({ s := 1, t := 2 } : Pcv) = pcvOfWords 1 2 ∧
      lengthConflict (one { fresh 0 with expected := some { s := 1, t := 2 } }) 0
        { fresh 0 with expected := some { s := 1, t := 2 } } 1 = false) := by
  decide +kernel

/-- An OPEN stream whose first N extents have all sealed: L = 0, and L = E with the edge at 1; and one whose last extent L
shortens and so completes. -/
theorem witness_TrailerLearnsLength_at_n :
    (TrailerFor (one (fresh 0)) (fresh 0) (trl 0 none) ∧ PoolTrue (met (one (fresh 0)) (.trailer (trl 0 none))) ∧
      lengthConflict (met (one (fresh 0)) (.trailer (trl 0 none))) 0 (fresh 0) 0 = false ∧
      extentCount (extentBytes .m1) 0 = (fresh 0).edge) ∧
    (TrailerFor (one { fresh 0 with edge := 1 }) { fresh 0 with edge := 1 } (trl 1048576 (some (0, 1))) ∧
      PoolTrue (met (one { fresh 0 with edge := 1 }) (.trailer (trl 1048576 (some (0, 1))))) ∧
      lengthConflict (met (one { fresh 0 with edge := 1 }) (.trailer (trl 1048576 (some (0, 1))))) 0
        { fresh 0 with edge := 1 } 1048576 = false ∧ extentCount (extentBytes .m1) 1048576 = 1) ∧
    (TrailerFor (bound (live (fresh 0)) (rec8 .filling)) (live (fresh 0)) (trl 8 none) ∧
      PoolTrue (met (bound (live (fresh 0)) (rec8 .filling)) (.trailer (trl 8 none))) ∧
      lengthConflict (met (bound (live (fresh 0)) (rec8 .filling)) (.trailer (trl 8 none))) 0 (live (fresh 0)) 8 = false ∧
      findUnsealed (met (bound (live (fresh 0)) (rec8 .filling)) (.trailer (trl 8 none))) 0 0 = some 0) :=
  ⟨⟨by decide +kernel, pool_met (pool_one _ rfl) _, by decide +kernel⟩,
    ⟨by decide +kernel, pool_met (pool_one _ rfl) _, by decide +kernel⟩,
    ⟨by decide +kernel, pool_met (pool_bound _ _ rfl rfl) _, by decide +kernel⟩⟩

/-- A stream in ENDING whose one extent lies below the retired edge and which requires the object check. -/
def waits : Context := { ending8 with edge := 1, objectCheck := true }

/-- A value stored in ENDING: below N, and at N equal and unequal to the object accumulators. -/
theorem witness_TrailerLearnsLength_ending :
    (TrailerFor (one ending8) ending8 (trl 8 (some (0, 1))) ∧ PoolTrue (met (one ending8) (.trailer (trl 8 (some (0, 1))))) ∧
      ending8.length = some 8 ∧ ending8.expected = none ∧ ending8.edge < extentCount (extentBytes .m1) 8) ∧
    (TrailerFor (one waits) waits (trl 8 (some (0, 0))) ∧ PoolTrue (met (one waits) (.trailer (trl 8 (some (0, 0))))) ∧
      waits.state = .ending ∧ waits.expected = none ∧ extentCount (extentBytes .m1) 8 ≤ waits.edge ∧
      waits.acc = pcvOfWords 0 0) ∧
    (TrailerFor (one waits) waits (trl 8 (some (0, 1))) ∧ PoolTrue (met (one waits) (.trailer (trl 8 (some (0, 1))))) ∧
      waits.acc ≠ pcvOfWords 0 1) :=
  ⟨⟨by decide +kernel, pool_met (pool_one _ rfl) _, by decide +kernel⟩,
    ⟨by decide +kernel, pool_met (pool_one _ rfl) _, by decide +kernel⟩,
    ⟨by decide +kernel, pool_met (pool_one _ rfl) _, by decide +kernel⟩⟩

/-- The learning of L: not in OPEN; with a last extent shortened; with none unsealed; with no extent; with a whole one. -/
theorem witness_TrailerLearnsLength_learning :
    (ctxOf (one ending8) 0 = some ending8 ∧ ending8.state ≠ .opened) ∧
    (ctxOf (bound (live (fresh 0)) (rec8 .filling)) 0 = some (live (fresh 0)) ∧ (live (fresh 0)).state = .opened ∧
      0 < extentCount (extentBytes .m1) 8 ∧ 8 - (extentCount (extentBytes .m1) 8 - 1) * extentBytes .m1 < extentBytes .m1 ∧
      findUnsealed (bound (live (fresh 0)) (rec8 .filling)) 0 0 = some 0) ∧
    (ctxOf (one (fresh 0)) 0 = some (fresh 0) ∧ findUnsealed (one (fresh 0)) 0 0 = none ∧
      extentCount (extentBytes .m1) 0 = 0 ∧
      extentBytes .m1 ≤ 1048576 - (extentCount (extentBytes .m1) 1048576 - 1) * extentBytes .m1) := by
  decide +kernel

theorem witness_CommandWriteQueuesOrOverruns :
    ({ State.reset with commands := List.replicate 15 (cmd 1 []) } : State).commands.length < 16 ∧
    16 ≤ ({ State.reset with commands := List.replicate 16 (cmd 1 []) } : State).commands.length := by decide

/-- A full response queue. -/
def fullResponses : State :=
  { State.reset with responses := List.replicate 16 { tag := 0, status := .ok, results := [] } }

theorem witness_HostReadsAndWaitingCommands :
    State.reset.responses = [] ∧
    fullResponses.responses =
      { tag := 0, status := .ok, results := [] } :: List.replicate 15 { tag := 0, status := .ok, results := [] } ∧
    State.reset.commands = [] ∧ 16 ≤ fullResponses.responses.length ∧
    ((told State.reset 1 (List.replicate 6 0)).commands.head? = some (cmd 1 (List.replicate 6 0)) ∧
      commandKind 1 = some .openStream ∧ (List.replicate 6 (0 : Word)).length < argWords .openStream) := by
  decide +kernel

theorem witness_UnknownCommandAnswered :
    (told State.reset 0 []).commands.head? = some (cmd 0 []) ∧ (told State.reset 0x32 []).commands.head? = some (cmd 0x32 []) ∧
    (told { State.reset with responses := fullResponses.responses.tail } 0 []).responses.length < 16 ∧
    16 ≤ (told fullResponses 0 []).responses.length ∧
    (0x0032 : BitVec 16).toNat ∉
      [0x0001, 0x0002, 0x0003, 0x0004, 0x0005, 0x0006, 0x0007, 0x0008, 0x000C, 0x000D, 0x000E, 0x0010, 0x0011, 0x0012,
       0x0013, 0x0018, 0x0019, 0x001A, 0x001B, 0x001C, 0x0020, 0x0021, 0x0022, 0x0030, 0x0031] := by
  decide +kernel

/-- The command can be taken, and stream 0 with context `c` is the stream its first argument names. -/
abbrev CommandFor (k : CommandKind) (s : State) (c : Context) (code : BitVec 16) (args : List Word) : Prop :=
  Taken k (told s code args) (cmd code args) ∧ lookupTag (told s code args) (argWord args 0) = some (0, c)

theorem witness_TagMapAndCloseStream :
    TablesCanonical (one (fresh 0)) ∧
    (Taken .closeStream (told State.reset 2 [7]) (cmd 2 [7]) ∧ lookupTag (told State.reset 2 [7]) 7 = none) ∧
    CommandFor .closeStream (one (fresh 0)) (fresh 0) 2 [0x42] ∧
    (CommandFor .closeStream (claimedOne (still .done none)) (past (still .done none)) 2 [0x42] ∧
      (past (still .done none)).held ≠ 0) ∧
    (CommandFor .closeStream (one (still .failed (some .stall))) (still .failed (some .stall)) 2 [0x42] ∧
      (still .failed (some .stall)).held = 0) := by
  decide +kernel

/-- A full stream table: context `i` carries tag `i`. -/
def fullTable : State :=
  { State.reset with contexts := (List.range 1024).map (fun i => (i, { fresh 0 with tag := BitVec.ofNat 32 i })) }

theorem fullTable_contexts :
    fullTable.contexts = (List.range 1024).map (fun i => (i, { fresh 0 with tag := BitVec.ofNat 32 i })) := by
  simp only [fullTable]

theorem pool_fullTable : PoolTrue fullTable := by
  refine ⟨⟨by decide +kernel, by decide +kernel, by decide +kernel, ?_⟩, ?_, by decide +kernel⟩
  · simp only [fullTable, List.map_map]
    refine List.Nodup.map_on ?_ List.nodup_range
    intro a ha b hb h
    have := congrArg BitVec.toNat h
    simp only [Function.comp, BitVec.toNat_ofNat, List.mem_range] at this ha hb
    omega
  · simp [PoolAccounted, fullTable, State.reset, slotCount]

/-- BAD_ARGUMENT at group 16, queue 4, L = 2^44 + 1 and S = M; TAG_IN_USE. -/
theorem witness_OpenStream_refused :
    (PoolTrue (told State.reset 1 [0x42, 16, 0, 0, 0, 0, 0]) ∧
      Taken .openStream (told State.reset 1 [0x42, 16, 0, 0, 0, 0, 0]) (cmd 1 [0x42, 16, 0, 0, 0, 0, 0]) ∧
      15 < (openArgs [0x42, 16, 0, 0, 0, 0, 0]).group ∧ 3 < (openArgs [0x42, 0x0400, 0, 0, 0, 0, 0]).queue ∧
      (openArgs [0x42, 0x00100000, 1, 4096, 0, 0, 0]).length = some (2 ^ 44 + 1) ∧
      (openArgs [0x42, 0x00200000, 0, 0, 2147483647, 0, 0]).expected = some (2147483647, 0)) ∧
    (PoolTrue (told (one (fresh 0)) 1 [0x42, 0, 0, 0, 0, 0, 0]) ∧
      Taken .openStream (told (one (fresh 0)) 1 [0x42, 0, 0, 0, 0, 0, 0]) (cmd 1 [0x42, 0, 0, 0, 0, 0, 0]) ∧
      ∃ y ∈ (one (fresh 0)).contexts, y.2.tag = (openArgs [0x42, 0, 0, 0, 0, 0, 0]).tag) :=
  ⟨⟨pool_told pool_reset _ _, by decide +kernel⟩, ⟨pool_told (pool_one _ rfl) _ _, by decide +kernel⟩⟩

theorem fullTable_has (i : Nat) (h : i < 1024) : (ctxOf fullTable i).isSome = true := by
  have m : (i, { fresh 0 with tag := BitVec.ofNat 32 i }) ∈ fullTable.contexts := by
    rw [fullTable_contexts]
    exact List.mem_map.mpr ⟨i, List.mem_range.mpr h, rfl⟩
  simp only [ctxOf, tabGet_of_mem pool_fullTable.1.1 m, Option.isSome_some]

theorem fullTable_lacks : ¬ ∃ y ∈ fullTable.contexts, y.2.tag = 1024 := by
  rintro ⟨y, m, e⟩
  rw [fullTable_contexts] at m
  obtain ⟨i, hi, rfl⟩ := List.mem_map.mp m
  have e' := congrArg BitVec.toNat e
  have n : (1024 : Word).toNat = 1024 := by decide
  simp only [BitVec.toNat_ofNat, List.mem_range] at e' hi
  omega

/-- TABLE_FULL. -/
theorem witness_OpenStream_table_full :
    PoolTrue (told fullTable 1 [1024, 0, 0, 0, 0, 0, 0]) ∧
      Taken .openStream (told fullTable 1 [1024, 0, 0, 0, 0, 0, 0]) (cmd 1 [1024, 0, 0, 0, 0, 0, 0]) ∧
      (∀ i < 1024, (ctxOf fullTable i).isSome = true) ∧ ¬ ∃ y ∈ fullTable.contexts, y.2.tag = 1024 :=
  ⟨pool_told pool_fullTable _ _, by decide +kernel, fullTable_has, fullTable_lacks⟩

/-- Context 0 is taken without L, with L = 1, and with L = 0. -/
theorem witness_OpenStreamSetsUpContext :
    PoolTrue (told State.reset 1 [0x42, 15, 0, 0, 0, 0, 0]) ∧
      Taken .openStream (told State.reset 1 [0x42, 15, 0, 0, 0, 0, 0]) (cmd 1 [0x42, 15, 0, 0, 0, 0, 0]) ∧
      (openArgs [0x42, 15, 0, 0, 0, 0, 0]).length = none ∧ (openArgs [0x42, 0x0010030F, 1, 0, 0, 0, 0]).length = some 1 ∧
      (openArgs [0x42, 0x00100000, 0, 0, 0, 0, 0]).length = some 0 ∧ ctxOf State.reset 0 = none ∧
      ¬ ∃ y ∈ State.reset.contexts, y.2.tag = 0x42 :=
  ⟨pool_told pool_reset _ _, by decide +kernel, by decide +kernel, by decide +kernel, by decide +kernel, rfl,
    fun ⟨_, h, _⟩ => List.not_mem_nil h⟩

theorem pool_claimed (c : Context) : PoolTrue (claimedOne c) := pool_bound (past c) (rec8 .claimed) rfl rfl

theorem pool_ready (c : Context) : PoolTrue (readyOne c) := pool_bound (past c) (rec8 .ready) rfl rfl

theorem witness_AbortStreamWithdraws :
    (Taken .abortStream (told State.reset 3 [7]) (cmd 3 [7]) ∧ PoolTrue (told State.reset 3 [7]) ∧
      lookupTag (told State.reset 3 [7]) 7 = none) ∧
    (CommandFor .abortStream (claimedOne (still .withdrawing (some .aborted))) (past (still .withdrawing (some .aborted))) 3
        [0x42] ∧ PoolTrue (told (claimedOne (still .withdrawing (some .aborted))) 3 [0x42])) ∧
    (CommandFor .abortStream (claimedOne ending8) (past ending8) 3 [0x42] ∧ PoolTrue (told (claimedOne ending8) 3 [0x42])) ∧
    (CommandFor .abortStream (readyOne ending8) (past ending8) 3 [0x42] ∧ PoolTrue (told (readyOne ending8) 3 [0x42])) :=
  ⟨⟨by decide +kernel, pool_told pool_reset _ _, by decide +kernel⟩,
    ⟨by decide +kernel, pool_told (pool_claimed _) _ _⟩,
    ⟨by decide +kernel, pool_told (pool_claimed _) _ _⟩, ⟨by decide +kernel, pool_told (pool_ready _) _ _⟩⟩

theorem witness_AbortGroupAbortsMembers :
    (Taken .abortGroup (told State.reset 4 [16]) (cmd 4 [16]) ∧ PoolTrue (told State.reset 4 [16]) ∧ 15 < arg32 [16] 0) ∧
    (Taken .abortGroup (told (claimedOne (fresh 15)) 4 [15]) (cmd 4 [15]) ∧ PoolTrue (told (claimedOne (fresh 15)) 4 [15]) ∧
      arg32 [15] 0 ≤ 15 ∧ (past (fresh 15)).group = 15) :=
  ⟨⟨by decide +kernel, pool_told pool_reset _ _, by decide +kernel⟩,
    ⟨by decide +kernel, pool_told (pool_claimed _) _ _, by decide +kernel⟩⟩

theorem witness_QueryStreamCopiesContext :
    (Taken .queryStream (told State.reset 5 [7]) (cmd 5 [7]) ∧ lookupTag (told State.reset 5 [7]) 7 = none) ∧
    CommandFor .queryStream (claimedOne ending8) (past ending8) 5 [0x42] := by decide +kernel

theorem witness_ConfigurePoolSetsSizes :
    (Taken .configurePool (told (one (fresh 0)) 8 [0, 0]) (cmd 8 [0, 0]) ∧
      ¬ ((told (one (fresh 0)) 8 [0, 0]).contexts = [] ∧ (told (one (fresh 0)) 8 [0, 0]).claims = [])) ∧
    (Taken .configurePool (told State.reset 8 [65535, 65535]) (cmd 8 [65535, 65535]) ∧ State.reset.contexts = [] ∧
      State.reset.claims = []) := by
  decide +kernel

theorem witness_SupplyCheckRefusals_by_state :
    (Taken .supplyCheck (told State.reset 6 [7, 0, 0, 2147483647]) (cmd 6 [7, 0, 0, 2147483647]) ∧
      Config.modulus ≤ (pcvOfWords 0 2147483647).t) ∧
    (Taken .supplyCheck (told State.reset 6 [7, 0, 0, 0]) (cmd 6 [7, 0, 0, 0]) ∧
      lookupTag (told State.reset 6 [7, 0, 0, 0]) 7 = none) ∧
    CommandFor .supplyCheck (one (still .failed (some .stall))) (still .failed (some .stall)) 6 [0x42, 0, 0, 0] ∧
    CommandFor .supplyCheck (one (still .withdrawing (some .aborted))) (still .withdrawing (some .aborted)) 6
      [0x42, 0, 0, 0] ∧
    CommandFor .supplyCheck (one (still .done none)) (still .done none) 6 [0x42, 0, 0, 0] := by
  decide +kernel

theorem witness_SupplyCheckRefusals_by_place :
    (CommandFor .supplyCheck (one (fresh 0)) (fresh 0) 6 [0x42, 16777216, 0, 0] ∧
      2 ^ 44 / extentBytes .m1 ≤ arg32 [0x42, 16777216, 0, 0] 1) ∧
    (CommandFor .supplyCheck (one ending8) ending8 6 [0x42, 1, 0, 0] ∧ extentCount (extentBytes .m1) 8 ≤ 1) ∧
    CommandFor .supplyCheck (one (fresh 0)) (fresh 0) 6 [0x42, 64, 0, 0] ∧
    CommandFor .supplyCheck (one { fresh 0 with edge := 1 }) { fresh 0 with edge := 1 } 6 [0x42, 0, 0, 0] ∧
    (CommandFor .supplyCheck (bound (live (fresh 0)) valued) (live (fresh 0)) 6 [0x42, 0, 5, 6] ∧
      CommandFor .supplyCheck (bound (live (fresh 0)) valued) (live (fresh 0)) 6 [0x42, 0, 5, 7] ∧
      unsealedRecord (bound (live (fresh 0)) valued) 0 0 = some (0, valued) ∧ winGet (live (fresh 0)) 0 = .live) ∧
    (CommandFor .supplyCheck { one (fresh 0) with freeSlots := [] } (fresh 0) 6 [0x42, 63, 0, 0] ∧
      winGet (fresh 0) 63 = .absent) :=
  ⟨by decide +kernel, by decide +kernel, by decide +kernel, by decide +kernel, by decide +kernel, by decide +kernel⟩

/-- The five cases, as for a CHECK. -/
theorem witness_SupplyCheckStoresAndCompares :
    (CommandFor .supplyCheck (one (fresh 0)) (fresh 0) 6 [0x42, 63, 2147483646, 0] ∧
      PoolTrue (told (one (fresh 0)) 6 [0x42, 63, 2147483646, 0]) ∧
      WindowsTrue (told (one (fresh 0)) 6 [0x42, 63, 2147483646, 0]) ∧ winGet (fresh 0) 63 = .absent) ∧
    (CommandFor .supplyCheck (bound (live ending8) (rec8 .filling)) (live ending8) 6 [0x42, 0, 0, 0] ∧
      PoolTrue (told (bound (live ending8) (rec8 .filling)) 6 [0x42, 0, 0, 0]) ∧
      WindowsTrue (told (bound (live ending8) (rec8 .filling)) 6 [0x42, 0, 0, 0])) ∧
    (CommandFor .supplyCheck (bound (live ending8) (rec8 .awaitCheck)) (live ending8) 6 [0x42, 0, 0, 0] ∧
      CommandFor .supplyCheck (bound (live ending8) (rec8 .awaitCheck)) (live ending8) 6 [0x42, 0, 0, 1] ∧
      PoolTrue (told (bound (live ending8) (rec8 .awaitCheck)) 6 [0x42, 0, 0, 0]) ∧
      WindowsTrue (told (bound (live ending8) (rec8 .awaitCheck)) 6 [0x42, 0, 0, 0]) ∧
      (rec8 .awaitCheck).acc = pcvOfWords 0 0 ∧ (rec8 .awaitCheck).retries < (live ending8).retryLimit) ∧
    (CommandFor .supplyCheck (bound (live ending8) { rec8 .awaitCheck with retries := 3 }) (live ending8) 6 [0x42, 0, 0, 1] ∧
      PoolTrue (told (bound (live ending8) { rec8 .awaitCheck with retries := 3 }) 6 [0x42, 0, 0, 1]) ∧
      WindowsTrue (told (bound (live ending8) { rec8 .awaitCheck with retries := 3 }) 6 [0x42, 0, 0, 1])) :=
  ⟨⟨by decide +kernel, pool_told (pool_one _ rfl) _ _, by decide +kernel, by decide +kernel⟩,
    ⟨by decide +kernel, pool_told (pool_live _ _ rfl) _ _, by decide +kernel⟩,
    ⟨by decide +kernel, by decide +kernel, pool_told (pool_live _ _ rfl) _ _, by decide +kernel, by decide +kernel⟩,
    ⟨by decide +kernel, pool_told (pool_live _ _ rfl) _ _, by decide +kernel⟩⟩

theorem witness_SupplyObjectCheckDecides :
    (Taken .supplyObjectCheck (told State.reset 7 [7, 2147483647, 0]) (cmd 7 [7, 2147483647, 0]) ∧
      PoolTrue (told State.reset 7 [7, 2147483647, 0]) ∧ Config.modulus ≤ (pcvOfWords 2147483647 0).s) ∧
    (Taken .supplyObjectCheck (told State.reset 7 [7, 0, 0]) (cmd 7 [7, 0, 0]) ∧
      lookupTag (told State.reset 7 [7, 0, 0]) 7 = none) ∧
    (CommandFor .supplyObjectCheck (one (still .failed (some .stall))) (still .failed (some .stall)) 7 [0x42, 0, 0] ∧
      PoolTrue (told (one (still .failed (some .stall))) 7 [0x42, 0, 0])) ∧
    (CommandFor .supplyObjectCheck (one { ending8 with expected := some { s := 1, t := 2 } })
        { ending8 with expected := some { s := 1, t := 2 } } 7 [0x42, 1, 2] ∧
      CommandFor .supplyObjectCheck (one { ending8 with expected := some { s := 1, t := 2 } })
        { ending8 with expected := some { s := 1, t := 2 } } 7 [0x42, 1, 3]) ∧
    (CommandFor .supplyObjectCheck (one (still .done none)) (still .done none) 7 [0x42, 0, 0] ∧
      (still .done none).expected = none) ∧
    (CommandFor .supplyObjectCheck (one (fresh 0)) (fresh 0) 7 [0x42, 0, 0] ∧
      CommandFor .supplyObjectCheck (one ending8) ending8 7 [0x42, 0, 0] ∧ ending8.edge < extentCount (extentBytes .m1) 8) ∧
    (CommandFor .supplyObjectCheck (one waits) waits 7 [0x42, 0, 0] ∧ PoolTrue (told (one waits) 7 [0x42, 0, 0]) ∧
      CommandFor .supplyObjectCheck (one waits) waits 7 [0x42, 0, 1] ∧ PoolTrue (told (one waits) 7 [0x42, 0, 1]) ∧
      extentCount (extentBytes .m1) 8 ≤ waits.edge ∧ waits.acc = pcvOfWords 0 0 ∧ waits.acc ≠ pcvOfWords 0 1) :=
  ⟨⟨by decide +kernel, pool_told pool_reset _ _, by decide +kernel⟩, by decide +kernel,
    ⟨by decide +kernel, pool_told (pool_one _ rfl) _ _⟩,
    by decide +kernel, by decide +kernel, by decide +kernel,
    ⟨by decide +kernel, pool_told (pool_one _ rfl) _ _, by decide +kernel, pool_told (pool_one _ rfl) _ _, by decide +kernel⟩⟩

theorem witness_TimerCommandsRestartTimers :
    (Taken .setStreamTimers (told State.reset 0x0C [7, 0, 0]) (cmd 0x0C [7, 0, 0]) ∧
      lookupTag (told State.reset 0x0C [7, 0, 0]) 7 = none) ∧
    CommandFor .setStreamTimers (one (still .done none)) (still .done none) 0x0C [0x42, 0, 0] ∧
    CommandFor .setStreamTimers (one (fresh 0)) (fresh 0) 0x0C [0x42, 0, 0] ∧
    CommandFor .setStreamTimers (one ending8) ending8 0x0C [0x42, 65535, 0] ∧
    (Taken .setGroupTimers (told State.reset 0x0D [16, 0, 0]) (cmd 0x0D [16, 0, 0]) ∧
      TablesCanonical (told State.reset 0x0D [16, 0, 0]) ∧ 15 < arg32 [16, 0, 0] 0) ∧
    (Taken .setGroupTimers (told (one (fresh 15)) 0x0D [15, 0, 1]) (cmd 0x0D [15, 0, 1]) ∧
      TablesCanonical (told (one (fresh 15)) 0x0D [15, 0, 1]) ∧ arg32 [15, 0, 1] 0 ≤ 15 ∧ (fresh 15).group = 15) := by
  decide +kernel

/-- Context 0 before each kind of advance: FREE, not running, counting, at the gap expiry and at the abandon expiry. -/
theorem witness_TimerAdvanceAndExpiries :
    (PoolTrue State.reset ∧ ctxOf State.reset 0 = none) ∧
    (PoolTrue (one (still .done none)) ∧ ctxOf (one (still .done none)) 0 = some (still .done none)) ∧
    (PoolTrue (one (fresh 0)) ∧ ctxOf (one (fresh 0)) 0 = some (fresh 0) ∧ (fresh 0).phase = .gap ∧
      (fresh 0).count + 1 ≠ (fresh 0).compareA) ∧
    (PoolTrue (one { fresh 0 with count := 1999 }) ∧ 1999 + 1 = (fresh 0).compareA) ∧
    (PoolTrue (one { fresh 0 with phase := .abandon, count := 29998 }) ∧ 29998 + 1 ≠ (fresh 0).compareB) ∧
    (PoolTrue (one { fresh 0 with phase := .abandon, count := 29999 }) ∧ 29999 + 1 = (fresh 0).compareB ∧
      (fresh 0).state = .opened) :=
  ⟨⟨pool_reset, by decide +kernel⟩, ⟨pool_one _ rfl, by decide +kernel⟩, ⟨pool_one _ rfl, by decide +kernel⟩,
    ⟨pool_one _ rfl, by decide +kernel⟩, ⟨pool_one _ rfl, by decide +kernel⟩, ⟨pool_one _ rfl, by decide +kernel⟩⟩

theorem witness_SettingCommandsClamp :
    Taken .setTimerDefaults (told State.reset 0x0E [65536, 65535]) (cmd 0x0E [65536, 65535]) ∧
    Taken .setStoreLimit (told State.reset 0x13 [0]) (cmd 0x13 [0]) ∧
    Taken .setThreshold (told State.reset 0x1B [8]) (cmd 0x1B [8]) ∧
    (Taken .setQueue (told State.reset 0x10 [4, 0, 0, 0, 0]) (cmd 0x10 [4, 0, 0, 0, 0]) ∧ 3 < arg32 [4, 0, 0, 0, 0] 0) ∧
    (Taken .setQueue (told State.reset 0x10 [3, 128, 1, 4097, 1]) (cmd 0x10 [3, 128, 1, 4097, 1]) ∧
      arg32 [3, 128, 1, 4097, 1] 0 = (3 : Fin 4).val) := by
  decide +kernel

theorem witness_AckTakesMostUrgentClass :
    (Taken .ackAttention (told State.reset 0x18 []) (cmd 0x18 []) ∧
      ∀ d : Fin 8, classEligible (told State.reset 0x18 []) d = false) ∧
    (Taken .ackAttention (told flagged 0x18 []) (cmd 0x18 []) ∧ ServicesDistinct (told flagged 0x18 []) ∧
      ∃ d : Fin 8, classEligible (told flagged 0x18 []) d = true) := by
  decide +kernel

/-- Class 7 in service. -/
def serving : State := { State.reset with inService := #v[false, false, false, false, false, false, false, true] }

theorem witness_ServiceAndHoldCommands :
    (Taken .endAttention (told serving 0x19 [8]) (cmd 0x19 [8]) ∧ 7 < arg8 [8] 0) ∧
    (Taken .endAttention (told serving 0x19 [0]) (cmd 0x19 [0]) ∧ serving.inService[0] = false) ∧
    (Taken .endAttention (told serving 0x19 [7]) (cmd 0x19 [7]) ∧ arg8 [7] 0 = (7 : Fin 8).val ∧
      serving.inService[7] = true) ∧
    (Taken .setClass (told serving 0x1A [8, 0, 0]) (cmd 0x1A [8, 0, 0]) ∧ 7 < arg8 [8, 0, 0] 0) ∧
    (Taken .setClass (told serving 0x1A [7, 8, 1]) (cmd 0x1A [7, 8, 1]) ∧ arg8 [7, 8, 1] 0 = (7 : Fin 8).val) ∧
    (Taken .setClass (told serving 0x1A [0, 8, 1]) (cmd 0x1A [0, 8, 1]) ∧ arg8 [0, 8, 1] 0 = (0 : Fin 8).val) ∧
    (Taken .releaseHold (told State.reset 0x11 [4]) (cmd 0x11 [4]) ∧ 3 < arg32 [4] 0) ∧
    (Taken .releaseHold (told State.reset 0x11 [3]) (cmd 0x11 [3]) ∧ arg32 [3] 0 = (3 : Fin 4).val) := by
  decide +kernel

theorem witness_FetchNoticesClearsFlags :
    (Taken .fetchNotices (told flagged 0x1C [3, 0]) (cmd 0x1C [3, 0]) ∧ TablesCanonical (told flagged 0x1C [3, 0]) ∧
      arg8 [3, 0] 0 ∉ [0, 1, 2, 5, 7]) ∧
    (Taken .fetchNotices (told flagged 0x1C [7, 9]) (cmd 0x1C [7, 9]) ∧ TablesCanonical (told flagged 0x1C [7, 9]) ∧
      arg8 [7, 9] 0 ∈ [0, 1, 2, 5, 7] ∧ ∃ y ∈ flagged.contexts, (noticeOf y.2.notices 7).isSome = true) := by
  decide +kernel

theorem witness_ReadCountersAnswersThenClears :
    (Taken .readStreamCounters (told State.reset 0x20 [7, 0]) (cmd 0x20 [7, 0]) ∧
      lookupTag (told State.reset 0x20 [7, 0]) 7 = none) ∧
    (CommandFor .readStreamCounters (one (fresh 0)) (fresh 0) 0x20 [0x42, 2] ∧ argBool [0x42, 2] 1 = false) ∧
    (CommandFor .readStreamCounters (one (fresh 0)) (fresh 0) 0x20 [0x42, 1] ∧ argBool [0x42, 1] 1 = true) := by
  decide +kernel

/-- A copy in flight. -/
def copying : State := { State.reset with copy := some .zero }

theorem witness_SnapshotCapturesAndCompletes :
    (Taken .snapshot (told copying 0x21 [0]) (cmd 0x21 [0]) ∧ (told copying 0x21 [0]).copy ≠ none) ∧
    (Taken .snapshot (told (one (fresh 0)) 0x21 [1]) (cmd 0x21 [1]) ∧ (told (one (fresh 0)) 0x21 [1]).copy = none ∧
      TablesCanonical (told (one (fresh 0)) 0x21 [1])) ∧
    (Taken .readSnapshot (told copying 0x22 []) (cmd 0x22 []) ∧ Taken .readSnapshot (told State.reset 0x22 []) (cmd 0x22 [])) ∧
    copying.copy = some .zero ∧ State.reset.copy = none := by
  decide +kernel

theorem witness_QueriesReportState :
    Taken .queryEngine (told State.reset 0x30 []) (cmd 0x30 []) ∧ Taken .drainStatus (told State.reset 0x12 []) (cmd 0x12 []) ∧
      State.reset.drainAnswer = none := by
  decide +kernel

theorem witness_ResetEngineClearsHeldWork :
    Taken .resetEngine (told (claimedOne ending8) 0x31 []) (cmd 0x31 []) ∧ PoolTrue (told (claimedOne ending8) 0x31 []) ∧
      SettingsInRange (told (claimedOne ending8) 0x31 []) :=
  ⟨by decide +kernel, pool_told (pool_claimed _) _ _, by decide +kernel⟩

theorem witness_DrainPortTakesOneRequest :
    ({ State.reset with drainAnswer := some (.status .released) } : State).drainAnswer = some (.status .released) ∧
      State.reset.drainAnswer = none := by decide

/-- A READY record of the last extent of its stream, and one of a stream whose L is unknown. -/
theorem witness_ReadReadyHandsOutDescriptors :
    (readyOne ending8).drainAnswer = none ∧
    (tabGet (readyOne ending8).extents h0.slot = some (rec8 .ready) ∧
      ctxOf (readyOne ending8) (rec8 .ready).stream = some (past ending8) ∧ (past ending8).length = some 8) ∧
    (tabGet (readyOne (fresh 0)).extents h0.slot = some (rec8 .ready) ∧
      ctxOf (readyOne (fresh 0)) (rec8 .ready).stream = some (past (fresh 0)) ∧ (past (fresh 0)).length = none) := by
  decide +kernel

theorem witness_QuotasAndWalkedPositions : 127 ≤ 127 ∧ 3 < 4 := by decide

theorem witness_ChainReadWalksUntilStopped : (readyOne ending8).drainAnswer = none := by decide

theorem claims_claimedOne (c : Context) : ClaimsExact (claimedOne c) := by
  refine ⟨by simp [claimedOne], by simp [claimedOne, Config.claimCapacity], ?_, ?_⟩ <;>
    simp [claimedOne, bound, one, namesRecord, tabGet, h0, rec8, handleOf, genOf, State.reset]

/-- A current claim, a stale handle, and a handle that is not claimed. -/
theorem witness_HandlesAreJudgedAndDataRead :
    (genOf (claimedOne ending8) 0 ≠ ({ slot := 0, gen := 255 } : Handle).gen ∧ (claimedOne ending8).drainAnswer = none) ∧
    (genOf (claimedOne ending8) 4095 = ({ slot := 4095, gen := 0 } : Handle).gen ∧
      { slot := 4095, gen := 0 } ∉ (claimedOne ending8).claims) ∧
    (PoolTrue (claimedOne ending8) ∧ ClaimsExact (claimedOne ending8) ∧ genOf (claimedOne ending8) h0.slot = h0.gen ∧
      h0 ∈ (claimedOne ending8).claims) ∧
    (CurrentClaim (claimedOne ending8) h0 (rec8 .claimed) (past ending8) ∧
      extentLength (extentBytes .m1) (past ending8).length 0 ≤ (8 : Word).toNat ∧
      (7 : Word).toNat < extentLength (extentBytes .m1) (past ending8).length 0) :=
  ⟨by decide +kernel, by decide +kernel, ⟨pool_claimed _, claims_claimedOne _, by decide +kernel, by decide +kernel⟩,
    by decide +kernel⟩

theorem witness_ReleasesFreeOrRequeue :
    (CurrentClaim (claimedOne ending8) h0 (rec8 .claimed) (past ending8) ∧ (claimedOne ending8).drainAnswer = none ∧
      (past ending8).state ≠ .withdrawing ∧ (rec8 .claimed).storeAttempts + 1 < (claimedOne ending8).storeLimit) ∧
    (CurrentClaim (claimedOne (still .failed (some .stall))) h0 (rec8 .claimed) (past (still .failed (some .stall))) ∧
      (past (still .failed (some .stall))).state = .failed) := by
  decide +kernel

/-- A store limit of 1 on a stream in ENDING and on one in FAILED, and a stream in WITHDRAWING. -/
theorem witness_LastReleasesEndStreams :
    (CurrentClaim { claimedOne ending8 with storeLimit := 1 } h0 (rec8 .claimed) (past ending8) ∧
      PoolTrue { claimedOne ending8 with storeLimit := 1 } ∧ 1 ≤ (rec8 .claimed).storeAttempts + 1 ∧
      (past ending8).state ≠ .failed) ∧
    (CurrentClaim { claimedOne (still .failed (some .stall)) with storeLimit := 1 } h0 (rec8 .claimed)
        (past (still .failed (some .stall))) ∧
      PoolTrue { claimedOne (still .failed (some .stall)) with storeLimit := 1 }) ∧
    (CurrentClaim (claimedOne (still .withdrawing (some .aborted))) h0 (rec8 .claimed)
        (past (still .withdrawing (some .aborted))) ∧
      PoolTrue (claimedOne (still .withdrawing (some .aborted)))) :=
  ⟨⟨by decide +kernel, pool_limit (pool_claimed _) _, by decide +kernel⟩, ⟨by decide +kernel, pool_limit (pool_claimed _) _⟩,
    ⟨by decide +kernel, pool_claimed _⟩⟩

theorem witness_FreeingStepReturnsSlot :
    tabGet (bound (live ending8) (rec8 .filling)).extents 0 = some (rec8 .filling) ∧
    ctxOf (bound (live ending8) (rec8 .filling)) (rec8 .filling).stream = some (live ending8) := by decide +kernel

theorem witness_FailureHandlingFreesUnsealed :
    (PoolTrue (one (still .failed (some .stall))) ∧
      ctxOf (one (still .failed (some .stall))) 0 = some (still .failed (some .stall))) ∧
    (PoolTrue (bound (live ending8) (rec8 .filling)) ∧ ctxOf (bound (live ending8) (rec8 .filling)) 0 = some (live ending8) ∧
      (live ending8).state ≠ .failed ∧ (live ending8).state ≠ .withdrawing) :=
  ⟨⟨pool_one _ rfl, by decide +kernel⟩, ⟨pool_live _ _ rfl, by decide +kernel⟩⟩

/-- A FILLING record that is not complete, one that is, with and without a value, with and without retries left. -/
theorem witness_CompleteExtentsAreRoutedAndSealed :
    (tabGet (bound (live ending8) { rec8 .filling with ranges := [(0, 4)] }).extents 0 =
        some { rec8 .filling with ranges := [(0, 4)] } ∧
      ¬ ([(0, 4)] = [(0, extentLength (extentBytes .m1) (live ending8).length 0)])) ∧
    (tabGet (bound (live ending8) (rec8 .filling)).extents 0 = some (rec8 .filling) ∧
      ctxOf (bound (live ending8) (rec8 .filling)) (rec8 .filling).stream = some (live ending8) ∧
      (rec8 .filling).ranges = [(0, extentLength (extentBytes .m1) (live ending8).length (rec8 .filling).index)] ∧
      (rec8 .filling).expected = none ∧ (live ending8).extentCheck = false ∧ (live (fresh 0x10000)).extentCheck = true) ∧
    (tabGet (bound (live ending8) valued).extents 0 = some valued ∧
      valued.ranges = [(0, extentLength (extentBytes .m1) (live ending8).length valued.index)] ∧
      valued.expected = some { s := 5, t := 6 } ∧ ({ s := 5, t := 6 } : Pcv) ≠ valued.acc ∧
      valued.retries < (live ending8).retryLimit ∧
      ({ valued with retries := 3 } : Extent).retries ≥ (live ending8).retryLimit) ∧
    ({ rec8 .awaitCheck with expected := some { s := 0, t := 0 } } : Extent).expected = some (rec8 .awaitCheck).acc := by
  decide +kernel

theorem witness_DoneEvaluationDecides :
    ctxOf (one (fresh 0)) 0 = some (fresh 0) ∧ (fresh 0).state ≠ .ending ∧
    (ctxOf (one ending8) 0 = some ending8 ∧ ending8.edge < extentCount (extentBytes .m1) 8) ∧
    (ctxOf (one waits) 0 = some waits ∧ extentCount (extentBytes .m1) 8 ≤ waits.edge ∧ waits.expected = none ∧
      waits.objectCheck = true) ∧
    ({ waits with objectCheck := false } : Context).objectCheck = false ∧
    (({ waits with expected := some { s := 0, t := 0 } } : Context).expected = some waits.acc ∧
      waits.acc ≠ { s := 0, t := 1 }) := by
  decide +kernel

theorem witness_PiecesTrimAndInsert : rangesFrom 0 [(0, 4), (8, 12)] = true ∧ 4 < 8 := by decide

theorem ranges_bound8 : RangesTrue (bound (live ending8) (rec8 .awaitCheck)) := by decide +kernel

theorem witness_FirstHoleIsLowestUncovered :
    (PoolTrue (bound (live ending8) (rec8 .awaitCheck)) ∧ RangesTrue (bound (live ending8) (rec8 .awaitCheck)) ∧
      WindowsTrue (bound (live ending8) (rec8 .awaitCheck)) ∧
      ctxOf (bound (live ending8) (rec8 .awaitCheck)) 0 = some (live ending8) ∧ (live ending8).length = some 8) ∧
    (PoolTrue (bound (live (fresh 0)) (rec8 .filling)) ∧ RangesTrue (bound (live (fresh 0)) (rec8 .filling)) ∧
      WindowsTrue (bound (live (fresh 0)) (rec8 .filling)) ∧
      ctxOf (bound (live (fresh 0)) (rec8 .filling)) 0 = some (live (fresh 0)) ∧ (live (fresh 0)).length = none) :=
  ⟨⟨pool_live _ _ rfl, ranges_bound8, by decide +kernel, by decide +kernel⟩,
    ⟨pool_live _ _ rfl, by decide +kernel, by decide +kernel, by decide +kernel⟩⟩

theorem witness_CheckValuesAddUp :
    (bytesOf [1, 2]).length = 4 * 2 ∧ (2 ^ 28 - 1) * extentBytes .k64 ≤ 2 ^ 44 ∧
      ([] : List Byte).length = 0 * extentBytes .m4 := by decide +kernel

/-- A step that answers a next state. -/
theorem step_next (s : State) (h : s.pending = []) : step s = .next s := by simp [step, h]

theorem witness_PoolStaysAccounted :
    PoolTrue (bound (live ending8) (rec8 .awaitCheck)) ∧
      step (bound (live ending8) (rec8 .awaitCheck)) = .next (bound (live ending8) (rec8 .awaitCheck)) :=
  ⟨pool_live _ _ rfl, step_next _ rfl⟩

theorem witness_QueuesAndClaimsStayExact :
    PoolTrue (claimedOne ending8) ∧ QueuesExact (claimedOne ending8) ∧ ClaimsExact (claimedOne ending8) ∧
      step (claimedOne ending8) = .next (claimedOne ending8) :=
  ⟨pool_claimed _, by decide +kernel, claims_claimedOne _, step_next _ rfl⟩

theorem witness_WindowsStayTrue :
    PoolTrue (claimedOne ending8) ∧ QueuesExact (claimedOne ending8) ∧ ClaimsExact (claimedOne ending8) ∧
      WindowsTrue (claimedOne ending8) ∧ step (claimedOne ending8) = .next (claimedOne ending8) :=
  ⟨pool_claimed _, by decide +kernel, claims_claimedOne _, by decide +kernel, step_next _ rfl⟩

theorem streams_ending8 : StreamsTrue (bound (live ending8) (rec8 .awaitCheck)) :=
  streams_of rfl ⟨rfl, rfl⟩ fun l hl => by obtain rfl : 8 = l := Option.some.inj hl; decide +kernel

theorem streams_claimedOne : StreamsTrue (claimedOne ending8) :=
  streams_of rfl ⟨rfl, rfl⟩ fun l hl => by obtain rfl : 8 = l := Option.some.inj hl; decide +kernel

theorem witness_StreamStatesStayTrue :
    PoolTrue (bound (live ending8) (rec8 .awaitCheck)) ∧ WindowsTrue (bound (live ending8) (rec8 .awaitCheck)) ∧
      StreamsTrue (bound (live ending8) (rec8 .awaitCheck)) ∧
      step (bound (live ending8) (rec8 .awaitCheck)) = .next (bound (live ending8) (rec8 .awaitCheck)) :=
  ⟨pool_live _ _ rfl, by decide +kernel, streams_ending8, step_next _ rfl⟩

theorem witness_FillRangesStayOrdered :
    PoolTrue (claimedOne ending8) ∧ QueuesExact (claimedOne ending8) ∧ ClaimsExact (claimedOne ending8) ∧
      StreamsTrue (claimedOne ending8) ∧ RangesTrue (claimedOne ending8) ∧
      step (claimedOne ending8) = .next (claimedOne ending8) :=
  ⟨pool_claimed _, by decide +kernel, claims_claimedOne _, streams_claimedOne, by decide +kernel, step_next _ rfl⟩

/-- The PCV of words that are all zero. -/
theorem pcv_of_zeros (n : Nat) : pcvOf (List.replicate (4 * n) 0) = { s := 0, t := 0 } := by
  have w : ∀ m : Nat, wordsOf (List.replicate (4 * m) 0) = List.replicate m 0 := by
    intro m
    induction m with
    | zero => rfl
    | succ m ih =>
      rw [show 4 * (m + 1) = 4 * m + 1 + 1 + 1 + 1 by omega]
      simp only [List.replicate_succ, wordsOf, ih]
      rfl
  have p : ∀ m : Nat, plainSum (List.replicate m 0) = 0 := by
    intro m
    induction m with
    | zero => rfl
    | succ m ih => simp [List.replicate_succ, plainSum, ih, reduceWord]
  have q : ∀ m j : Nat, weightedSum j (List.replicate m 0) = 0 := by
    intro m
    induction m with
    | zero => intro j; rfl
    | succ m ih => intro j; simp [List.replicate_succ, weightedSum, ih, reduceWord]
  unfold pcvOf
  rw [w, p, q]
  rfl

/-- A part whose buffer memory lists no byte holds zeros in every extent. -/
theorem heldBytes_of_empty (s : State) (h : s.mem = []) (slot : Nat) (r : Extent) :
    pcvOf (heldBytes s slot r) = { s := 0, t := 0 } := by
  obtain ⟨n, hn⟩ : ∃ n, extentBytes s.extentSize = 4 * n := by
    cases s.extentSize
    exacts [⟨16384, rfl⟩, ⟨32768, rfl⟩, ⟨65536, rfl⟩, ⟨131072, rfl⟩, ⟨262144, rfl⟩, ⟨524288, rfl⟩, ⟨1048576, rfl⟩]
  have e : heldBytes s slot r = List.replicate (4 * n) 0 := by
    simp only [heldBytes, h, readByte, tabGet, Option.getD_none, ite_self, hn]
    rw [List.map_const', List.length_range]
  rw [e, pcv_of_zeros]

theorem accumulators_claimedOne : AccumulatorsTrue (claimedOne ending8) := by
  intro x hx
  rw [heldBytes_of_empty _ rfl]
  simp only [claimedOne, bound, List.mem_singleton] at hx
  subst hx
  rfl

theorem witness_AccumulatorsStayPcvOfHeldBytes :
    PoolTrue (claimedOne ending8) ∧ QueuesExact (claimedOne ending8) ∧ ClaimsExact (claimedOne ending8) ∧
      RangesTrue (claimedOne ending8) ∧ AccumulatorsTrue (claimedOne ending8) ∧
      step (claimedOne ending8) = .next (claimedOne ending8) :=
  ⟨pool_claimed _, by decide +kernel, claims_claimedOne _, by decide +kernel, accumulators_claimedOne,
    step_next _ rfl⟩

theorem witness_ClaimedBytesHaveDescriptorPcv :
    PoolTrue (claimedOne ending8) ∧ RangesTrue (claimedOne ending8) ∧ AccumulatorsTrue (claimedOne ending8) ∧
      CurrentClaim (claimedOne ending8) h0 (rec8 .claimed) (past ending8) :=
  ⟨pool_claimed _, by decide +kernel, accumulators_claimedOne, by decide +kernel⟩

theorem witness_RegistersStayInRange :
    TablesCanonical (claimedOne ending8) ∧ CountersTrue (claimedOne ending8) ∧ ServicesDistinct (claimedOne ending8) ∧ SettingsInRange (claimedOne ending8) ∧
      TimersTrue (claimedOne ending8) ∧ PcvsReduced (claimedOne ending8) ∧ QueuesBounded (claimedOne ending8) ∧
      memWf (claimedOne ending8).mem = true ∧ step (claimedOne ending8) = .next (claimedOne ending8) :=
  ⟨(pool_claimed _).1, by decide +kernel, by decide +kernel, by decide +kernel, by decide +kernel, by decide +kernel,
    by decide +kernel, by decide +kernel, step_next _ rfl⟩

theorem witness_PortRecordsRoundTrip :
    (Arrival.segment (seg 0xFFFFFFFFFFFF true [1])).wellFormed = true ∧ (cmd 0xFFFF (List.replicate 255 0)).wellFormed = true ∧
    (Instr.release { slot := 4095, gen := 255 } .failedStore).wellFormed = true ∧
    (encodeRequest (.release { slot := 4095, gen := 255 } .failedStore)).isSome = true := by
  decide +kernel

end Sys2Proof.Tests
end

section
/-! PROOFS. The tag map, CLOSE_STREAM and ABORT_STREAM (spec/01, sections 1.1 and 1.3): the freeing of several records of
one stream, and with it statements O16 and O18. -/
namespace Sys2Proof.Machine

/-! ## The answering of a command (R188, R189) -/

/-- A refusal in the terms of Safety.lean. -/
theorem placeResponse_refuse (s : State) (c : CommandRecord) (st : Status) :
    placeResponse c.tag (refuse { s with commands := s.commands.tail } st) = answer s c st [] := rfl

/-- An OK answer in the terms of Safety.lean: `t` is what the command's rule leaves, with the command still queued. -/
theorem placeResponse_accept {u t : State} (h : u = { t with commands := t.commands.tail }) (c : CommandRecord)
    (l : List Word) : placeResponse c.tag (accept u l) = answer t c .ok l := by
  subst h
  rfl

/-! ## The tag map (R2) -/

/-- The tag map answers exactly the contexts that are not FREE: no two of them carry one tag. -/
theorem lookupTag_eq_some_iff {s : State} (hs : TablesCanonical s) {tag : Word} {i : Nat} {x : Context} :
    lookupTag s tag = some (i, x) ↔ ctxOf s i = some x ∧ x.tag = tag := by
  obtain ⟨hwf, -, -, hnodup⟩ := hs
  refine ⟨lookupTag_some hwf, fun ⟨hx, htag⟩ => ?_⟩
  have hmem : (i, x) ∈ s.contexts := mem_of_tabGet hx
  cases hl : lookupTag s tag with
  | none => exact absurd htag (lookupTag_none hwf hl _ hmem)
  | some found =>
    obtain ⟨j, y⟩ := found
    obtain ⟨hy, hytag⟩ := lookupTag_some hwf hl
    have hsame : (j, y) = (i, x) :=
      List.inj_on_of_nodup_map hnodup (mem_of_tabGet hy) hmem (hytag.trans htag.symm)
    rw [hsame]

theorem lookupTag_eq_none_iff {s : State} (hs : TablesCanonical s) {tag : Word} :
    lookupTag s tag = none ↔ ∀ i x, ctxOf s i = some x → x.tag ≠ tag := by
  rw [Option.eq_none_iff_forall_ne_some, Prod.forall]
  simp only [ne_eq, lookupTag_eq_some_iff hs, not_and]

/-! ## CLOSE_STREAM (R17) -/

/-- A context that becomes FREE leaves the tables in canonical form. -/
theorem tablesCanonical_tabErase {s : State} (hs : TablesCanonical s) (i : Nat) :
    TablesCanonical { s with contexts := tabErase s.contexts i } := by
  obtain ⟨hctx, hext, hbound, hnodup⟩ := hs
  have hsub : (tabErase s.contexts i).Sublist s.contexts := by
    rw [tabErase_eq_filter]
    exact List.filter_sublist
  exact ⟨tabWf_tabErase hctx i, hext, fun y hy => hbound y (hsub.subset hy), hnodup.sublist (hsub.map _)⟩

/-- The tag of a context that becomes FREE leaves the map. -/
theorem lookupTag_tabErase {s : State} (hs : TablesCanonical s) {tag : Word} {i : Nat} {x : Context}
    (h : lookupTag s tag = some (i, x)) : lookupTag { s with contexts := tabErase s.contexts i } tag = none := by
  rw [lookupTag_eq_none_iff (tablesCanonical_tabErase hs i)]
  intro j y hy htag
  rw [ctxOf, tabGet_tabErase] at hy
  split at hy
  · cases hy
  · next hji =>
    have hother : lookupTag s tag = some (j, y) := (lookupTag_eq_some_iff hs).2 ⟨hy, htag⟩
    rw [h] at hother
    cases hother
    exact hji rfl

theorem exec_closeStream (s : State) : exec .closeStream s = takeCommand .closeStream closeStream s := rfl

theorem exec_closeStream_unmapped {s : State} {c : CommandRecord} (hc : Taken .closeStream s c)
    (h : lookupTag s (argWord c.args 0) = none) : exec .closeStream s = .next (answer s c .unknownStream []) := by
  have hbody : closeStream c.args { s with commands := s.commands.tail } =
      refuse { s with commands := s.commands.tail } .unknownStream := by
    rw [closeStream, lookupTag_commands, h]
  rw [exec_closeStream, takeCommand_of_taken hc, hbody, placeResponse_refuse]

theorem exec_closeStream_mapped {s : State} {c : CommandRecord} (hc : Taken .closeStream s c) {i : Nat} {x : Context}
    (h : lookupTag s (argWord c.args 0) = some (i, x)) :
    exec .closeStream s = .next
      (if (x.state = .done ∨ x.state = .failed) ∧ x.held = 0 then
        answer { s with contexts := tabErase s.contexts i } c .ok []
      else answer s c .busy []) := by
  have hbody : closeStream c.args { s with commands := s.commands.tail } =
      if (x.state = .done ∨ x.state = .failed) ∧ x.held = 0 then
        accept { s with commands := s.commands.tail, contexts := tabErase s.contexts i } []
      else refuse { s with commands := s.commands.tail } .busy := by
    rw [closeStream, lookupTag_commands, h]
  rw [exec_closeStream, takeCommand_of_taken hc, hbody]
  split
  · rw [placeResponse_accept (t := { s with contexts := tabErase s.contexts i }) rfl]
  · rw [placeResponse_refuse]

/-- Settles O16: the map by the uniqueness of tags, CLOSE_STREAM by the two answers of its rule on a mapped tag. -/
theorem tagMapAndCloseStream : Obligations.TagMapAndCloseStream := by
  refine ⟨fun s tag hs => ⟨fun i x => lookupTag_eq_some_iff hs, lookupTag_eq_none_iff hs⟩, fun s c hc => ?_⟩
  refine ⟨exec_closeStream_unmapped hc, fun i x h => ?_⟩
  rw [exec_closeStream_mapped hc h]
  refine ⟨fun hbusy => ?_, fun hstate hheld => ?_⟩
  · rw [if_neg hbusy]
  · rw [if_pos ⟨hstate, hheld⟩]
    exact ⟨_, rfl, rfl, fun j => tabGet_tabErase .., fun hs => lookupTag_tabErase hs h⟩

/-! ## The freeing step (R60) -/

/-- The context of a stream after the freeing step on one of its records (R60, steps 2 and 3). -/
def freedContext (c : Context) (r : Extent) : Context :=
  { c with window := if r.state.unsealed then winSet c r.index .absent else c.window, held := c.held - 1 }

theorem unlinkExtent_of_unsealed {s : State} {r : Extent} {c : Context} (hc : ctxOf s r.stream = some c)
    (h : r.state.unsealed = true) (slot : Nat) :
    unlinkExtent s slot r = setCtx s r.stream { c with window := winSet c r.index .absent } := by
  unfold unlinkExtent
  split
  · exact modCtx_of_some hc _
  · exact modCtx_of_some hc _
  all_goals simp_all [ExtentState.unsealed]

theorem unlinkExtent_of_ready {s : State} {r : Extent} {c : Context} (hc : ctxOf s r.stream = some c)
    (h : r.state = .ready) (slot : Nat) :
    unlinkExtent s slot r =
      { s with ready := s.ready.set c.queue (s.ready[c.queue].filter (fun h => h != handleOf s slot)) } := by
  rw [unlinkExtent, h, hc]

/-- Steps 3 and 4 of the freeing step, on a record that has left its queue and its window position. -/
theorem freeExtent_of_unlinkExtent {s u : State} {slot : Nat} {r : Extent} {c : Context}
    (hr : tabGet s.extents slot = some r) (hu : unlinkExtent s slot r = u) (hc : ctxOf u r.stream = some c) :
    freeExtent s slot =
      { u with
        contexts := tabSet u.contexts r.stream { c with held := c.held - 1 }
        extents := tabErase u.extents slot
        freeSlots := u.freeSlots ++ [slot]
        gens := bumpGen u slot } := by
  rw [freeExtent, hr]
  simp only [hu, modCtx_of_some hc]
  rfl

/-- The freeing step on a record that is not CLAIMED. -/
theorem freeExtent_eq {s : State} {slot : Nat} {r : Extent} {c : Context} (hr : tabGet s.extents slot = some r)
    (hc : ctxOf s r.stream = some c) (hst : r.state ≠ .claimed) :
    freeExtent s slot =
      { s with
        contexts := tabSet s.contexts r.stream (freedContext c r)
        extents := tabErase s.extents slot
        freeSlots := s.freeSlots ++ [slot]
        gens := bumpGen s slot
        ready :=
          if r.state = .ready then s.ready.set c.queue (s.ready[c.queue].filter (fun h => h != handleOf s slot))
          else s.ready } := by
  have hunsealed (h : r.state.unsealed = true) := by
    have hfree := freeExtent_of_unlinkExtent hr (unlinkExtent_of_unsealed hc h slot) (ctxOf_setCtx_same ..)
    rwa [setCtx_contexts, tabSet_tabSet] at hfree
  unfold freedContext
  cases hstate : r.state with
  | filling => exact hunsealed (by rw [hstate]; rfl)
  | awaitCheck => exact hunsealed (by rw [hstate]; rfl)
  | ready => exact freeExtent_of_unlinkExtent hr (unlinkExtent_of_ready hc hstate slot) hc
  | claimed => exact absurd hstate hst

/-- The position of a freed unsealed record becomes ABSENT; outside the window there is none to become so. -/
theorem winGet_freedContext (c : Context) (r : Extent) (k : Nat) :
    winGet (freedContext c r) k = if (r.state.unsealed && r.index == k) = true then .absent else winGet c k := by
  unfold freedContext
  cases hun : r.state.unsealed with
  | false => rfl
  | true =>
    refine (winGet_winSet c r.index k .absent).trans ?_
    by_cases hk : r.index = k
    · subst hk
      by_cases hin : c.edge ≤ r.index ∧ r.index - c.edge < 64
      · simp [hin]
      · simp [hin, winGet]
    · simp [hk, Ne.symm hk]

/-- A ready queue after a freeing step: that of the stream, `p`, loses the handle `h` of the record when `b` says that the
record is READY, and the others lose nothing. -/
theorem getElem_ready_set (ready : Vector (List Handle) 4) (p q : Fin 4) (b : Prop) [Decidable b] (h : Handle) :
    (if b then ready.set p (ready[p].filter (fun g => g != h)) else ready)[q] =
      if q = p then ready[q].filter (fun g => !(decide b && g == h)) else ready[q] := by
  by_cases hb : b
  · rw [if_pos hb, Fin.getElem_fin, Vector.getElem_set]
    by_cases hq : q = p
    · subst hq
      simp [hb, bne]
    · simp [hq, Fin.val_ne_of_ne (Ne.symm hq)]
  · simp [hb]

/-! ## Freeing several records of one stream (R14, R60) -/

/-- State `t` is `s` after the records `rs` of stream `i`, with their slots, were freed in that order, none of them being
CLAIMED; the stream's context was `x` and is `d`. -/
structure FreedRecords (s t : State) (i : Nat) (x d : Context) (rs : List (Nat × Extent)) : Prop where
  frame : t = { s with
    contexts := t.contexts, extents := t.extents, freeSlots := t.freeSlots, gens := t.gens, ready := t.ready }
  contexts : ∀ j, ctxOf t j = if j = i then some d else ctxOf s j
  fields : d = { x with held := x.held - rs.length, window := d.window }
  window : ∀ k, winGet d k =
    if rs.any (fun y => y.2.state.unsealed && y.2.index == k) then .absent else winGet x k
  extents : t.extents = s.extents.filter (fun y => y.1 ∉ rs.map (·.1))
  freeSlots : t.freeSlots = s.freeSlots ++ rs.map (·.1)
  gens : ∀ n, genOf t n = if n ∈ rs.map (·.1) then genOf s n + 1 else genOf s n
  ready : ∀ q : Fin 4, t.ready[q] =
    if q = x.queue then
      s.ready[q].filter (fun h => !(rs.any (fun y => y.2.state == .ready && h == handleOf s y.1)))
    else s.ready[q]

theorem FreedRecords.nil {s : State} {i : Nat} {x : Context} (hx : ctxOf s i = some x) : FreedRecords s s i x x [] where
  frame := rfl
  contexts j := by
    split
    · subst_vars; exact hx
    · rfl
  fields := rfl
  window k := rfl
  extents := by simp
  freeSlots := by simp
  gens n := by simp
  ready q := by simp

theorem FreedRecords.single {s : State} {i slot : Nat} {x : Context} {r : Extent} (hx : ctxOf s i = some x)
    (hr : tabGet s.extents slot = some r) (hi : r.stream = i) (hst : r.state ≠ .claimed) :
    FreedRecords s (freeExtent s slot) i x (freedContext x r) [(slot, r)] := by
  subst hi
  rw [freeExtent_eq hr hx hst]
  exact {
    frame := rfl
    contexts := fun j => tabGet_tabSet ..
    fields := rfl
    window := fun k => by simpa using winGet_freedContext x r k
    extents := by
      simp only [tabErase_eq_filter, List.map_cons, List.map_nil, List.mem_singleton]
      exact List.filter_congr fun y _ => by simp [bne, beq_eq_decide]
    freeSlots := rfl
    gens := fun n => by
      simp only [List.map_cons, List.map_nil, List.mem_singleton]
      exact getD_bumpGen s slot n
    ready := fun q => by
      refine (getElem_ready_set s.ready x.queue q (r.state = .ready) (handleOf s slot)).trans ?_
      simp [beq_eq_decide] }

/-- Freeing goes on: the handles of the later records are those they had before the earlier ones were freed. -/
theorem FreedRecords.append {s t u : State} {i : Nat} {x d e : Context} {rs rs' : List (Nat × Extent)}
    (h : FreedRecords s t i x d rs) (h' : FreedRecords t u i d e rs')
    (hdisj : ∀ n ∈ rs'.map (·.1), n ∉ rs.map (·.1)) : FreedRecords s u i x e (rs ++ rs') where
  frame := by
    have hu := h'.frame
    rw [h.frame] at hu
    exact hu
  contexts j := by rw [h'.contexts, h.contexts]; split <;> rfl
  fields := by
    have he := h'.fields
    rw [h.fields] at he
    rw [List.length_append, ← Nat.sub_sub]
    exact he
  window k := by
    rw [h'.window, h.window, List.any_append, Bool.or_comm]
    simp only [Bool.or_eq_true, ite_or]
  extents := by
    rw [h'.extents, h.extents, List.filter_filter]
    refine List.filter_congr fun y _ => ?_
    simp [-List.mem_map, not_or, Bool.and_comm]
  freeSlots := by rw [h'.freeSlots, h.freeSlots]; simp
  gens n := by
    rw [h'.gens, h.gens, List.map_append]
    by_cases hn : n ∈ rs'.map (·.1)
    · simp [-List.mem_map, hn, hdisj n hn]
    · simp [-List.mem_map, hn]
  ready q := by
    have hqueue : d.queue = x.queue := by rw [h.fields]
    have hhandle : ∀ y ∈ rs', handleOf t y.1 = handleOf s y.1 := fun y hy => by
      rw [handleOf, handleOf, h.gens, if_neg (hdisj _ (List.mem_map_of_mem hy))]
    rw [h'.ready, h.ready, hqueue]
    split
    · rw [List.filter_filter]
      refine List.filter_congr fun g _ => ?_
      have hany : rs'.any (fun y => y.2.state == .ready && g == handleOf t y.1) =
          rs'.any (fun y => y.2.state == .ready && g == handleOf s y.1) := by
        rw [Bool.eq_iff_iff, List.any_eq_true, List.any_eq_true]
        exact exists_congr fun y => and_congr_right fun hy => by rw [hhandle y hy]
      rw [hany, List.any_append, Bool.not_or, Bool.and_comm]
    · rfl

/-- Records of one stream, each with the slot it is bound to, no slot twice and none CLAIMED, are all freed. -/
theorem freedRecords_freeExtents {i : Nat} (rs : List (Nat × Extent)) {s : State} {x : Context}
    (hx : ctxOf s i = some x) (hnodup : (rs.map (·.1)).Nodup)
    (hrs : ∀ y ∈ rs, tabGet s.extents y.1 = some y.2 ∧ y.2.stream = i ∧ y.2.state ≠ .claimed) :
    ∃ d, FreedRecords s (freeExtents s (rs.map (·.1))) i x d rs := by
  induction rs generalizing s x with
  | nil => exact ⟨x, .nil hx⟩
  | cons y rs ih =>
    obtain ⟨slot, r⟩ := y
    obtain ⟨⟨hr, hi, hst⟩, hrest⟩ := List.forall_mem_cons.1 hrs
    obtain ⟨hslot, hnodup⟩ := List.nodup_cons.1 hnodup
    have hfirst := FreedRecords.single hx hr hi hst
    have hbound : ∀ y ∈ rs, tabGet (freeExtent s slot).extents y.1 = some y.2 := fun y hy => by
      have hne : y.1 ≠ slot := fun h => hslot (h ▸ List.mem_map_of_mem (f := (·.1)) hy)
      rw [freeExtent_eq hr (hi ▸ hx) hst, tabGet_tabErase_other _ hne]
      exact (hrest y hy).1
    have hctx : ctxOf (freeExtent s slot) i = some (freedContext x r) := by rw [hfirst.contexts, if_pos rfl]
    obtain ⟨d, hlater⟩ := ih hctx hnodup fun y hy => ⟨hbound y hy, (hrest y hy).2⟩
    refine ⟨d, hfirst.append hlater fun n hn => ?_⟩
    rintro (_ | ⟨_, h⟩)
    · exact hslot hn
    · cases h

/-! ## The command queue plays no part in an abort -/

theorem modCtx_commands_comm (s : State) (l : List CommandRecord) (i : Nat) (f : Context → Context) :
    modCtx { s with commands := l } i f = { modCtx s i f with commands := l } := by
  cases hc : ctxOf s i with
  | none => simp only [modCtx, ctxOf_commands, hc]
  | some c =>
    simp only [modCtx, ctxOf_commands, hc]
    rfl

theorem unlinkExtent_commands (s : State) (l : List CommandRecord) (slot : Nat) (r : Extent) :
    unlinkExtent { s with commands := l } slot r = { unlinkExtent s slot r with commands := l } := by
  cases hst : r.state with
  | filling => simp only [unlinkExtent, hst, modCtx_commands_comm]
  | awaitCheck => simp only [unlinkExtent, hst, modCtx_commands_comm]
  | ready =>
    cases hc : ctxOf s r.stream with
    | none => simp only [unlinkExtent, hst, ctxOf_commands, hc]
    | some c =>
      simp only [unlinkExtent, hst, ctxOf_commands, hc]
      rfl
  | claimed =>
    simp only [unlinkExtent, hst]
    rfl

theorem freeExtent_commands (s : State) (l : List CommandRecord) (slot : Nat) :
    freeExtent { s with commands := l } slot = { freeExtent s slot with commands := l } := by
  cases hr : tabGet s.extents slot with
  | none => simp only [freeExtent, hr]
  | some r =>
    simp only [freeExtent, hr, unlinkExtent_commands, modCtx_commands_comm]
    rfl

theorem freeExtents_commands (s : State) (l : List CommandRecord) (slots : List Nat) :
    freeExtents { s with commands := l } slots = { freeExtents s slots with commands := l } := by
  unfold freeExtents
  induction slots generalizing s with
  | nil => rfl
  | cons slot slots ih => rw [List.foldl_cons, freeExtent_commands, ih, List.foldl_cons]

theorem abortStreamAt_commands (s : State) (l : List CommandRecord) (i : Nat) :
    abortStreamAt { s with commands := l } i = { abortStreamAt s i with commands := l } := by
  have hwithdraw : withdrawExtents { s with commands := l } i = { withdrawExtents s i with commands := l } :=
    freeExtents_commands ..
  simp only [abortStreamAt, hwithdraw, modCtx_commands_comm]
  rfl

/-! ## ABORT_STREAM (R13, R14) -/

/-- The records that a withdrawal frees. -/
theorem mem_withdrawn {s : State} (hw : tabWf s.extents = true) {i : Nat} {y : Nat × Extent} :
    y ∈ withdrawn s i ↔ tabGet s.extents y.1 = some y.2 ∧ y.2.stream = i ∧ y.2.state ≠ .claimed := by
  simp only [withdrawn, recordsOf, List.mem_filter, beq_iff_eq, bne_iff_ne, ← mem_iff_tabGet hw, and_assoc]

/-- A record's slot is one of those a withdrawal frees exactly when the record is one of those it frees. -/
theorem mem_withdrawn_slots {s : State} (hw : tabWf s.extents = true) {i : Nat} {y : Nat × Extent}
    (hy : y ∈ s.extents) :
    y.1 ∈ (withdrawn s i).map (·.1) ↔ y.2.stream = i ∧ y.2.state ≠ .claimed := by
  have hget : tabGet s.extents y.1 = some y.2 := tabGet_of_mem hw hy
  constructor
  · intro h
    obtain ⟨⟨n, r⟩, hz, rfl⟩ := List.mem_map.1 h
    obtain ⟨hzget, hstate⟩ := (mem_withdrawn hw).1 hz
    obtain rfl : y.2 = r := Option.some.inj (hget.symm.trans hzget)
    exact hstate
  · exact fun h => List.mem_map_of_mem ((mem_withdrawn hw).2 ⟨hget, h⟩)

/-- Withdrawal frees every record of the stream but the CLAIMED ones. -/
theorem withdrawExtents_freedRecords {s : State} (hw : tabWf s.extents = true) {i : Nat} {x : Context}
    (hx : ctxOf s i = some x) : ∃ d, FreedRecords s (withdrawExtents s i) i x d (withdrawn s i) :=
  freedRecords_freeExtents (withdrawn s i) hx (slotsOf_nodup hw i withdrawable) fun _ hy => (mem_withdrawn hw).1 hy

theorem withdrawExtents_extents {s : State} (hw : tabWf s.extents = true) {i : Nat} {x : Context}
    (hx : ctxOf s i = some x) :
    (withdrawExtents s i).extents = s.extents.filter (fun y => !(y.2.stream == i && y.2.state != .claimed)) := by
  obtain ⟨d, h⟩ := withdrawExtents_freedRecords hw hx
  rw [h.extents]
  refine List.filter_congr fun y hy => ?_
  simp [-List.mem_map, mem_withdrawn_slots hw hy, beq_eq_decide, bne]

/-- The state an abort leaves a stream in: FAILED when withdrawal freed all its records, otherwise WITHDRAWING. -/
theorem abortedState_withdrawExtents {s : State} (hw : tabWf s.extents = true) {i : Nat} {x : Context}
    (hx : ctxOf s i = some x) :
    abortedState (withdrawExtents s i) i = if withdrawn s i = recordsOf s i then .failed else .withdrawing := by
  unfold abortedState
  have hiff : (slotsOf (withdrawExtents s i) i (· == .claimed)).isEmpty = true ↔ withdrawn s i = recordsOf s i := by
    rw [withdrawn, List.filter_eq_self, slotsOf, recordsOf, withdrawExtents_extents hw hx]
    simp only [recordsOf, List.isEmpty_iff, List.map_eq_nil_iff, List.filter_filter, List.filter_eq_nil_iff,
      List.mem_filter, Bool.and_eq_true, Bool.not_eq_true', beq_iff_eq, bne_iff_ne]
    constructor
    · rintro h y ⟨hy, hstream⟩ hclaimed
      exact h y hy ⟨hclaimed, hstream, by simp [hclaimed]⟩
    · rintro h y hy ⟨hclaimed, hstream, -⟩
      exact h y ⟨hy, hstream⟩ hclaimed
  simp only [hiff]

/-- The context of stream `i` after its abort (R13, steps 2 to 4), `d` being what withdrawal left of it. -/
def abortedContext (s : State) (i : Nat) (d : Context) : Context :=
  { d with
    state := if withdrawn s i = recordsOf s i then .failed else .withdrawing
    cause := some .aborted
    phase := .off }

theorem abortStreamAt_eq {s : State} (hw : tabWf s.extents = true) {i : Nat} {x d : Context} (hx : ctxOf s i = some x)
    (h : FreedRecords s (withdrawExtents s i) i x d (withdrawn s i)) :
    abortStreamAt s i = setCtx (withdrawExtents s i) i (abortedContext s i d) := by
  have hd : ctxOf (withdrawExtents s i) i = some d := by rw [h.contexts, if_pos rfl]
  refine (modCtx_of_some hd _).trans ?_
  rw [abortedState_withdrawExtents hw hx]
  rfl

/-- The held count of the aborted stream is the number of its CLAIMED records, since it was that of all its records. -/
theorem abortedFrom_abortedContext {s t : State} {i : Nat} {x d : Context} (hheld : x.held = (recordsOf s i).length)
    (h : FreedRecords s t i x d (withdrawn s i)) : AbortedFrom s i x (abortedContext s i d) := by
  refine ⟨?_, h.window⟩
  have hfields := congrArg (abortedContext s i) h.fields
  rwa [hheld] at hfields

theorem exec_abortStream (s : State) : exec .abortStream s = takeCommand .abortStream abortStream s := rfl

theorem exec_abortStream_unmapped {s : State} {c : CommandRecord} (hc : Taken .abortStream s c)
    (h : lookupTag s (argWord c.args 0) = none) : exec .abortStream s = .next (answer s c .unknownStream []) := by
  have hbody : abortStream c.args { s with commands := s.commands.tail } =
      refuse { s with commands := s.commands.tail } .unknownStream := by
    rw [abortStream, lookupTag_commands, h]
  rw [exec_abortStream, takeCommand_of_taken hc, hbody, placeResponse_refuse]

theorem exec_abortStream_withdrawing {s : State} {c : CommandRecord} (hc : Taken .abortStream s c) {i : Nat}
    {x : Context} (h : lookupTag s (argWord c.args 0) = some (i, x)) (hst : x.state = .withdrawing) :
    exec .abortStream s = .next (answer s c .ok [word 5, word 0]) := by
  have hbody : abortStream c.args { s with commands := s.commands.tail } =
      accept { s with commands := s.commands.tail } [word 5, word 0] := by
    rw [abortStream, lookupTag_commands, h]
    exact if_pos hst
  rw [exec_abortStream, takeCommand_of_taken hc, hbody, placeResponse_accept (t := s) rfl]

theorem exec_abortStream_mapped {s : State} {c : CommandRecord} (hc : Taken .abortStream s c) {i : Nat} {x : Context}
    (h : lookupTag s (argWord c.args 0) = some (i, x)) (hst : x.state ≠ .withdrawing) :
    exec .abortStream s = .next
      (answer (abortStreamAt s i) c .ok
        [word (stateCodeOf (ctxOf (abortStreamAt s i) i)), word (withdrawn s i).length]) := by
  have hcount : withdrawCount s i = (withdrawn s i).length := List.length_map _
  have hbody : abortStream c.args { s with commands := s.commands.tail } =
      accept { abortStreamAt s i with commands := s.commands.tail }
        [word (stateCodeOf (ctxOf (abortStreamAt s i) i)), word (withdrawn s i).length] := by
    rw [abortStream, lookupTag_commands, h, ← hcount]
    simp only [if_neg hst, abortStreamAt_commands]
    rfl
  rw [exec_abortStream, takeCommand_of_taken hc, hbody,
    placeResponse_accept (t := abortStreamAt s i) (by rw [(heldWork_abortStreamAt ..).commands])]

/-- Settles O18: withdrawal frees the records one by one (`FreedRecords`), and the abort then sets cause, timer and
state. -/
theorem abortStreamWithdraws : Obligations.AbortStreamWithdraws := by
  intro s c hc hs
  refine ⟨exec_abortStream_unmapped hc, fun i x h => ⟨exec_abortStream_withdrawing hc h, fun hst => ?_⟩⟩
  obtain ⟨htables, -, -, hheld⟩ := hs
  obtain ⟨hx, -⟩ := (lookupTag_eq_some_iff htables).1 h
  obtain ⟨-, hw, -⟩ := htables
  obtain ⟨d, hfreed⟩ := withdrawExtents_freedRecords hw hx
  have hexec := exec_abortStream_mapped hc h hst
  rw [abortStreamAt_eq hw hx hfreed, ctxOf_setCtx_same] at hexec
  refine ⟨_, abortedContext s i d, hexec, abortedFrom_abortedContext (hheld (i, x) (mem_of_tabGet hx)) hfreed,
    fun j => ?_, hfreed.gens, hfreed.ready, ?_⟩
  · rw [ctxOf_setCtx, hfreed.contexts]
    split <;> rfl
  · rw [← withdrawExtents_extents hw hx, ← hfreed.freeSlots]
    exact congrArg (fun v => setCtx v i (abortedContext s i d)) hfreed.frame

end Sys2Proof.Machine
end

section
/-! PROOFS. CONFIGURE_POOL (spec/03, section 3.1): the sizes of R54 as the model's table gives them, and statement O21. -/
namespace Sys2Proof.Machine

/-! ## The sizes of R54 -/

/-- The power of two at the bottom of an argument's octave is the largest one not above the argument. -/
theorem two_pow_log2_eq {arg k : Nat} (hlo : 2 ^ k ≤ arg) (hhi : arg < 2 ^ (k + 1)) : 2 ^ Nat.log2 arg = 2 ^ k := by
  have hne : arg ≠ 0 := by have := Nat.two_pow_pos k; omega
  rw [(Nat.log2_eq_iff hne).2 ⟨hlo, hhi⟩]

/-- E by the words of R54, step 1: 65536 for a smaller argument, otherwise the largest power of two not above it, at most
4194304. -/
theorem extentBytes_extentSizeOfArg (arg : Nat) :
    extentBytes (extentSizeOfArg arg) = if arg < 65536 then 65536 else min (2 ^ Nat.log2 arg) 4194304 := by
  have htop (h : 4194304 ≤ arg) : 2 ^ 22 ≤ 2 ^ Nat.log2 arg :=
    Nat.pow_le_pow_right (by decide) ((Nat.le_log2 (by omega)).2 h)
  unfold extentSizeOfArg
  by_cases h16 : arg < 65536
  · rw [if_pos h16, if_pos (by omega)]
    rfl
  rw [if_neg h16]
  split_ifs with h17 h18 h19 h20 h21 h22
  · rw [two_pow_log2_eq (k := 16) (by omega) h17]; rfl
  · rw [two_pow_log2_eq (k := 17) (by omega) h18]; rfl
  · rw [two_pow_log2_eq (k := 18) (by omega) h19]; rfl
  · rw [two_pow_log2_eq (k := 19) (by omega) h20]; rfl
  · rw [two_pow_log2_eq (k := 20) (by omega) h21]; rfl
  · rw [two_pow_log2_eq (k := 21) (by omega) h22]; rfl
  · exact (min_eq_right (htop (by omega))).symm

/-- The slot count by the words of R54, step 2: 4096 up to 512 KiB, and above that as many slots as fill 2 GiB. -/
theorem slotCount_eq (z : ExtentSize) :
    slotCount z = if extentBytes z ≤ 524288 then 4096 else 2 ^ 31 / extentBytes z := by
  cases z <;> rfl

/-! ## CONFIGURE_POOL (R53, R55) -/

/-- The state that an accepted CONFIGURE_POOL makes: the three items of R54, and nothing else. -/
def configuredPool (s : State) (z : ExtentSize) (low : Nat) : State :=
  { s with extentSize := z, lowMark := low, freeSlots := List.range (slotCount z) }

theorem freeCount_configuredPool (s : State) (z : ExtentSize) (low : Nat) :
    freeCount (configuredPool s z low) = slotCount z := List.length_range

/-- Class 4 is pending after CONFIGURE_POOL only when the low mark is the slot count, all slots being free (R169). -/
theorem classPending_configuredPool (s : State) (z : ExtentSize) (arg : Nat) :
    classPending (configuredPool s z (min arg (slotCount z))) 4 = true ↔ min arg (slotCount z) = slotCount z := by
  have hclass : classPending (configuredPool s z (min arg (slotCount z))) 4 =
      decide (freeCount (configuredPool s z (min arg (slotCount z))) ≤ min arg (slotCount z)) := rfl
  rw [hclass, freeCount_configuredPool, decide_eq_true_eq]
  omega

theorem exec_configurePool (s : State) : exec .configurePool s = takeCommand .configurePool configurePool s := rfl

theorem exec_configurePool_busy {s : State} {c : CommandRecord} (hc : Taken .configurePool s c)
    (h : ¬ (s.contexts = [] ∧ s.claims = [])) : exec .configurePool s = .next (answer s c .busy []) := by
  have hbody : configurePool c.args { s with commands := s.commands.tail } =
      refuse { s with commands := s.commands.tail } .busy :=
    if_neg (by simpa only [List.isEmpty_iff] using h)
  rw [exec_configurePool, takeCommand_of_taken hc, hbody, placeResponse_refuse]

theorem exec_configurePool_idle {s : State} {c : CommandRecord} (hc : Taken .configurePool s c)
    (hctx : s.contexts = []) (hclaims : s.claims = []) {z : ExtentSize} (hz : extentSizeOfArg (arg32 c.args 0) = z) :
    exec .configurePool s = .next
      (answer (configuredPool s z (min (arg16 c.args 1) (slotCount z))) c .ok
        [word (extentBytes z), word (slotCount z), word (min (arg16 c.args 1) (slotCount z))]) := by
  have hbody : configurePool c.args { s with commands := s.commands.tail } =
      accept (configuredPool { s with commands := s.commands.tail } z (min (arg16 c.args 1) (slotCount z)))
        [word (extentBytes z), word (slotCount z), word (min (arg16 c.args 1) (slotCount z))] := by
    rw [configurePool, if_pos (by simp [hctx, hclaims]), hz, min_comm]
    rfl
  rw [exec_configurePool, takeCommand_of_taken hc, hbody]
  rfl

/-- Settles O21: the sizes of the model's table are those of R54 by `extentBytes_extentSizeOfArg` and `slotCount_eq`. -/
theorem configurePoolSetsSizes : Obligations.ConfigurePoolSetsSizes := by
  intro s c hc arg e n low
  have he : extentBytes (extentSizeOfArg arg) = e := extentBytes_extentSizeOfArg arg
  have hn : slotCount (extentSizeOfArg arg) = n := by rw [slotCount_eq, he]
  have hlow : min (arg16 c.args 1) (slotCount (extentSizeOfArg arg)) = low := by rw [hn]
  refine ⟨exec_configurePool_busy hc, fun hctx hclaims => ?_⟩
  have hexec := exec_configurePool_idle hc hctx hclaims (z := extentSizeOfArg arg) rfl
  have hpending := classPending_configuredPool s (extentSizeOfArg arg) (arg16 c.args 1)
  rw [he, hlow, hn] at hexec
  rw [hlow, hn] at hpending
  refine ⟨_, hexec, he, hn, (freeCount_configuredPool ..).trans hn, hpending, ?_⟩
  rw [configuredPool, hn]

end Sys2Proof.Machine
end

section
/-! PROOFS. Fill ranges and pieces (spec/03, section 3.5): what the insertion of a piece keeps of ascending ranges, how many
it leaves, and how the pieces of a segment lie in their extents. -/
namespace Sys2Proof.Machine

/-! ## Ascending ranges (R74 to R77) -/

theorem rangesFrom_cons {lo s e : Nat} {rs : List (Nat × Nat)} :
    rangesFrom lo ((s, e) :: rs) = true ↔ (lo ≤ s ∧ s < e) ∧ rangesFrom (e + 1) rs = true := by
  rw [rangesFrom, Bool.and_eq_true, decide_eq_true_eq]

theorem rangesFrom_mono {lo lo' : Nat} {rs : List (Nat × Nat)} (hlo : lo' ≤ lo) (h : rangesFrom lo rs = true) :
    rangesFrom lo' rs = true := by
  cases rs with
  | nil => rfl
  | cons r rs =>
    obtain ⟨⟨hs, he⟩, hrs⟩ := rangesFrom_cons.1 h
    exact rangesFrom_cons.2 ⟨⟨hlo.trans hs, he⟩, hrs⟩

theorem mem_of_rangesFrom {lo : Nat} {rs : List (Nat × Nat)} (h : rangesFrom lo rs = true) :
    ∀ g ∈ rs, lo ≤ g.1 ∧ g.1 < g.2 := by
  induction rs generalizing lo with
  | nil => simp
  | cons r rs ih =>
    obtain ⟨hr, hrs⟩ := rangesFrom_cons.1 h
    refine List.forall_mem_cons.2 ⟨hr, fun g hg => ?_⟩
    obtain ⟨hlo, hne⟩ := ih hrs g hg
    exact ⟨by omega, hne⟩

/-- Ranges stay ascending, disjoint and not adjacent when a piece is inserted (R77). -/
theorem rangesFrom_insertRange {lo a b : Nat} {rs : List (Nat × Nat)} (h : rangesFrom lo rs = true) (hlo : lo ≤ a)
    (hab : a < b) : rangesFrom lo (insertRange rs a b) = true := by
  induction rs generalizing lo a b with
  | nil => exact rangesFrom_cons.2 ⟨⟨hlo, hab⟩, rfl⟩
  | cons r rs ih =>
    obtain ⟨s, e⟩ := r
    obtain ⟨⟨hs, hse⟩, hrs⟩ := rangesFrom_cons.1 h
    rw [insertRange]
    split_ifs with hbelow habove
    · exact rangesFrom_cons.2 ⟨⟨hs, hse⟩, ih hrs (by omega) hab⟩
    · exact rangesFrom_cons.2 ⟨⟨hlo, hab⟩, rangesFrom_cons.2 ⟨⟨by omega, hse⟩, hrs⟩⟩
    · exact ih (rangesFrom_mono (by omega) hrs) (by omega) (by omega)

/-- The ranges after an insertion begin and end where the ranges before it or the piece do. -/
theorem insertRange_bounds {P Q : Nat → Prop} {a b : Nat} {rs : List (Nat × Nat)} (hrs : ∀ g ∈ rs, P g.1 ∧ Q g.2)
    (ha : P a) (hb : Q b) : ∀ g ∈ insertRange rs a b, P g.1 ∧ Q g.2 := by
  induction rs generalizing a b with
  | nil => exact List.forall_mem_singleton.2 ⟨ha, hb⟩
  | cons r rs ih =>
    obtain ⟨⟨hs, he⟩, hrest⟩ := List.forall_mem_cons.1 hrs
    rw [insertRange]
    split_ifs with hbelow habove
    · exact List.forall_mem_cons.2 ⟨⟨hs, he⟩, ih hrest ha hb⟩
    · exact List.forall_mem_cons.2 ⟨⟨ha, hb⟩, hrs⟩
    · exact ih hrest (min_rec' P hs ha) (max_rec' Q he hb)

/-- A piece inside a single range leaves it as it is. -/
theorem insertRange_singleton {a b len : Nat} (hab : a < b) (hb : b ≤ len) :
    insertRange [(0, len)] a b = [(0, len)] := by
  rw [insertRange, if_neg (by omega), if_neg (by omega), insertRange, Nat.zero_min, max_eq_left hb]

theorem touchCount_le_length (rs : List (Nat × Nat)) (a b : Nat) : touchCount rs a b ≤ rs.length :=
  List.length_filter_le ..

theorem touchCount_cons (s e : Nat) (rs : List (Nat × Nat)) (a b : Nat) :
    touchCount ((s, e) :: rs) a b = touchCount rs a b + if s ≤ b ∧ a ≤ e then 1 else 0 := by
  unfold touchCount
  rw [List.filter_cons]
  split_ifs <;> simp_all

/-- A piece that ends below every range touches none. -/
theorem touchCount_eq_zero {lo a b : Nat} {rs : List (Nat × Nat)} (h : rangesFrom lo rs = true) (hb : b < lo) :
    touchCount rs a b = 0 := by
  refine List.length_eq_zero_iff.2 (List.filter_eq_nil_iff.2 fun g hg => ?_)
  have := (mem_of_rangesFrom h g hg).1
  rw [decide_eq_true_eq]
  omega

/-- A piece that has taken in a range below all the others touches the same of these as before. -/
theorem touchCount_merge {s e a b : Nat} {rs : List (Nat × Nat)} (h : rangesFrom (e + 1) rs = true) (hae : a ≤ e)
    (hse : s < e) : touchCount rs (min s a) (max e b) = touchCount rs a b := by
  refine congrArg List.length (List.filter_congr fun g hg => ?_)
  obtain ⟨hlo, hne⟩ := mem_of_rangesFrom h g hg
  rw [decide_eq_decide]
  omega

/-- The range count after an insertion is c − t + 1 (R76). -/
theorem length_insertRange {lo a b : Nat} {rs : List (Nat × Nat)} (h : rangesFrom lo rs = true) (hab : a < b) :
    (insertRange rs a b).length = countAfter rs a b := by
  induction rs generalizing lo a b with
  | nil => rfl
  | cons r rs ih =>
    obtain ⟨s, e⟩ := r
    obtain ⟨⟨hs, hse⟩, hrs⟩ := rangesFrom_cons.1 h
    have hle := touchCount_le_length rs a b
    rw [countAfter, List.length_cons, touchCount_cons]
    by_cases hbelow : e < a
    · rw [insertRange, if_pos hbelow, List.length_cons, ih hrs hab, countAfter, if_neg (by omega)]
      omega
    by_cases habove : b < s
    · rw [insertRange, if_neg hbelow, if_pos habove, touchCount_eq_zero hrs (by omega), if_neg (by omega)]
      rfl
    · rw [insertRange, if_neg hbelow, if_neg habove, ih hrs (by omega), countAfter,
        touchCount_merge hrs (by omega) hse, if_pos (by omega)]
      omega

/-! ## The pieces of a segment (R41) -/

/-- A piece fits an extent whose stream has object length `l`: it lies within the extent's length, starts at a multiple of
4, and ends at one or at the extent's length. -/
structure PieceFits (e : Nat) (l : Option Nat) (p : Piece) : Prop where
  nonempty : p.start < p.stop
  within : p.stop ≤ extentLength e l p.index
  aligned : p.start % 4 = 0
  stops : p.stop % 4 = 0 ∨ p.stop = extentLength e l p.index

theorem four_dvd_extentBytes (z : ExtentSize) : 4 ∣ extentBytes z := by cases z <;> decide

theorem extentBytes_pos (z : ExtentSize) : 0 < extentBytes z := by cases z <;> decide

theorem le_extentLength {e k x : Nat} {l : Option Nat} (hx : x ≤ e) (hl : ∀ m ∈ l, k * e + x ≤ m) :
    x ≤ extentLength e l k := by
  unfold extentLength
  split
  · exact hx
  · split
    · have := hl _ rfl
      omega
    · exact hx

theorem extentLength_le {e : Nat} (he : 0 < e) (l : Option Nat) (k : Nat) : extentLength e l k ≤ e := by
  unfold extentLength
  split
  · exact le_rfl
  · next l =>
    split
    · next hlast =>
      have hbelow : l + (e - 1) < extentCount e l * e + e := Nat.lt_div_mul_add he
      rw [← hlast, Nat.succ_mul] at hbelow
      omega
    · exact le_rfl

/-- The extent that holds the last byte of an object ends with the object (R68). -/
theorem extentLength_last {e l : Nat} (he : 0 < e) (hl : 0 < l) :
    extentLength e (some l) ((l - 1) / e) = l - (l - 1) / e * e := by
  have hcount : (l - 1) / e + 1 = extentCount e l := by
    rw [extentCount, show l + (e - 1) = l - 1 + e by omega, Nat.add_div_right _ he]
  exact if_pos hcount

/-- The piece of a segment in the extent of its last byte, from position `start` on, fits. -/
theorem pieceFits_last {e off len start : Nat} {l : Option Nat} (he : 0 < e) (he4 : 4 ∣ e) (hlen : 0 < len)
    (hstart : start % 4 = 0) (hoff : (off + len - 1) / e * e + start ≤ off + len - 1) (hend : ∀ m ∈ l, off + len ≤ m)
    (hstop : (off + len) % 4 = 0 ∨ l = some (off + len)) :
    PieceFits e l
      { index := (off + len - 1) / e, start := start, stop := off + len - (off + len - 1) / e * e } := by
  have halign : (off + len - 1) / e * e % 4 = 0 := Nat.mod_eq_zero_of_dvd (he4.mul_left _)
  have hbelow : off + len - 1 < (off + len - 1) / e * e + e := Nat.lt_div_mul_add he
  refine ⟨?_, le_extentLength ?_ fun m hm => ?_, hstart, hstop.imp (fun h => ?_) fun h => ?_⟩
  · show start < off + len - (off + len - 1) / e * e
    omega
  · show off + len - (off + len - 1) / e * e ≤ e
    omega
  · have := hend m hm
    show (off + len - 1) / e * e + (off + len - (off + len - 1) / e * e) ≤ m
    omega
  · show (off + len - (off + len - 1) / e * e) % 4 = 0
    omega
  · subst h
    exact (extentLength_last he (by omega)).symm

/-- The piece of a segment in the extent of its first byte fits when the segment goes on in a later extent. -/
theorem pieceFits_first {e off len : Nat} {l : Option Nat} (he : 0 < e) (he4 : 4 ∣ e) (hoff : off % 4 = 0)
    (hcross : off / e < (off + len - 1) / e) (hend : ∀ m ∈ l, off + len ≤ m) :
    PieceFits e l { index := off / e, start := off - off / e * e, stop := e } := by
  have halign : off / e * e % 4 = 0 := Nat.mod_eq_zero_of_dvd (he4.mul_left _)
  have hbelow : off < off / e * e + e := Nat.lt_div_mul_add he
  have hle : off / e * e ≤ off := Nat.div_mul_le_self ..
  have hnext : off / e * e + e ≤ off + len - 1 := by
    rw [← Nat.succ_mul]
    exact (Nat.mul_le_mul_right e hcross).trans (Nat.div_mul_le_self ..)
  refine ⟨?_, le_extentLength le_rfl fun m hm => ?_, ?_, .inl (Nat.mod_eq_zero_of_dvd he4)⟩
  · show off - off / e * e < e
    omega
  · have := hend m hm
    show off / e * e + e ≤ m
    omega
  · show (off - off / e * e) % 4 = 0
    omega

/-- The pieces of a segment fit when the segment ends within the object, at its end or at a multiple of 4. -/
theorem pieceFits_of_mem_piecesOf {e off len : Nat} {l : Option Nat} (he : 0 < e) (he4 : 4 ∣ e) (hoff : off % 4 = 0)
    (hlen : 0 < len) (hend : ∀ m ∈ l, off + len ≤ m) (hstop : (off + len) % 4 = 0 ∨ l = some (off + len)) :
    ∀ p ∈ piecesOf e off len, PieceFits e l p := by
  have halign : off / e * e % 4 = 0 := Nat.mod_eq_zero_of_dvd (he4.mul_left _)
  have hle : off / e * e ≤ off := Nat.div_mul_le_self ..
  rw [piecesOf]
  by_cases hone : off / e = (off + len - 1) / e
  · rw [if_pos hone, List.forall_mem_singleton, hone]
    rw [hone] at halign hle
    exact pieceFits_last he he4 hlen (by omega) (by omega) hend hstop
  · have hcross : off / e < (off + len - 1) / e := Nat.lt_of_le_of_ne (Nat.div_le_div_right (by omega)) hone
    rw [if_neg hone, List.forall_mem_cons, List.forall_mem_singleton]
    exact ⟨pieceFits_first he he4 hoff hcross hend,
      pieceFits_last he he4 hlen rfl (Nat.div_mul_le_self ..) hend hstop⟩

/-- The pieces of a segment lie in different extents. -/
theorem piecesOf_index_nodup (e off len : Nat) : ((piecesOf e off len).map (·.index)).Nodup := by
  rw [piecesOf]
  split_ifs with hone
  · exact List.nodup_singleton _
  · simpa using hone

end Sys2Proof.Machine
end

section
/-! PROOFS. R74 for the records of the part: what it says of one record, and that each shared operation of Ops.lean and the
learning of L by a TRAILER keep it. -/
namespace Sys2Proof.Machine

/-! ## R74 for one record and for all -/

/-- R74 for one record, `e` being the extent size and `l` the object length of its stream; a record that is not FILLING is
complete. -/
structure RecordTrue (e : Nat) (l : Option Nat) (r : Extent) : Prop where
  ordered : rangesFrom 0 r.ranges = true
  few : r.ranges.length ≤ Config.maxRanges
  fits : ∀ g ∈ r.ranges,
    g.2 ≤ extentLength e l r.index ∧ g.1 % 4 = 0 ∧ (g.2 % 4 = 0 ∨ g.2 = extentLength e l r.index)
  full : r.state ≠ .filling → r.ranges = [(0, extentLength e l r.index)]

theorem recordTrue_iff (s : State) (c : Context) (r : Extent) :
    RecordTrue (extentBytes s.extentSize) c.length r ↔
      RangesOf s c r ∧ (r.state ≠ .filling → complete s c r = true) := by
  rw [complete, beq_iff_eq]
  exact ⟨fun h => ⟨⟨h.ordered, h.few, h.fits⟩, h.full⟩, fun ⟨⟨ho, hn, hf⟩, hc⟩ => ⟨ho, hn, hf, hc⟩⟩

/-- R74 for every record of a stream that is not FREE, the object length of stream `j` being taken as `len j l` where its
context says `l`. -/
def RecordsUnder (len : Nat → Option Nat → Option Nat) (s : State) : Prop :=
  ∀ x ∈ s.extents, ∀ c ∈ ctxOf s x.2.stream,
    RecordTrue (extentBytes s.extentSize) (len x.2.stream c.length) x.2

/-- R74 for every record of a stream that is not FREE. -/
abbrev RecordsTrue (s : State) : Prop := RecordsUnder (fun _ l => l) s

theorem rangesTrue_iff (s : State) : RangesTrue s ↔ RecordsTrue s := by
  simp only [RecordsTrue, RecordsUnder, recordTrue_iff]

/-- A FILLING record without ranges is as R74 says, whatever its extent's length. -/
theorem recordTrue_of_empty {r : Extent} (hr : r.ranges = []) (hst : r.state = .filling) (e : Nat) (l : Option Nat) :
    RecordTrue e l r where
  ordered := by rw [hr]; rfl
  few := by rw [hr]; exact Nat.zero_le _
  fits := by simp [hr]
  full h := absurd hst h

/-- A complete record stays as R74 says in whatever state it is. -/
theorem RecordTrue.of_full {e : Nat} {l : Option Nat} {r q : Extent} (h : RecordTrue e l r)
    (hfull : r.ranges = [(0, extentLength e l r.index)]) (hindex : q.index = r.index) (hranges : q.ranges = r.ranges) :
    RecordTrue e l q where
  ordered := by rw [hranges]; exact h.ordered
  few := by rw [hranges]; exact h.few
  fits := by rw [hranges, hindex]; exact h.fits
  full _ := by rw [hranges, hindex]; exact hfull

/-- R74 reads the index, the state and the ranges of a record. -/
theorem RecordTrue.congr {e : Nat} {l : Option Nat} {r q : Extent} (h : RecordTrue e l r) (hindex : q.index = r.index)
    (hranges : q.ranges = r.ranges) (hstate : q.state = r.state) : RecordTrue e l q where
  ordered := by rw [hranges]; exact h.ordered
  few := by rw [hranges]; exact h.few
  fits := by rw [hranges, hindex]; exact h.fits
  full := by rw [hranges, hindex, hstate]; exact h.full

/-- The insertion of a piece that fits and does not give nine ranges keeps R74 (R43, R77); a complete record is not
changed by it. -/
theorem RecordTrue.insert {e : Nat} {l : Option Nat} {r q : Extent} {p : Piece} (h : RecordTrue e l r)
    (hp : PieceFits e l p) (hpi : p.index = r.index) (hfew : countAfter r.ranges p.start p.stop ≤ Config.maxRanges)
    (hindex : q.index = r.index) (hstate : q.state = r.state)
    (hranges : q.ranges = insertRange r.ranges p.start p.stop) : RecordTrue e l q where
  ordered := by rw [hranges]; exact rangesFrom_insertRange h.ordered (Nat.zero_le _) hp.nonempty
  few := by rw [hranges, length_insertRange h.ordered hp.nonempty]; exact hfew
  fits := by
    obtain ⟨-, hwithin, haligned, hstops⟩ := hp
    rw [hpi] at hwithin hstops
    rw [hranges, hindex]
    have hbounds := insertRange_bounds (P := fun x => x % 4 = 0)
      (Q := fun x => x ≤ extentLength e l r.index ∧ (x % 4 = 0 ∨ x = extentLength e l r.index))
      (fun g hg => ⟨(h.fits g hg).2.1, (h.fits g hg).1, (h.fits g hg).2.2⟩) haligned ⟨hwithin, hstops⟩
    exact fun g hg => ⟨(hbounds g hg).2.1, (hbounds g hg).1, (hbounds g hg).2.2⟩
  full hst := by
    have hwithin := hp.within
    rw [hpi] at hwithin
    rw [hranges, hindex, h.full (hstate ▸ hst), insertRange_singleton hp.nonempty hwithin]

/-- R74 is kept by the learning of an L at or above the ends of a record's ranges (R24, R68). -/
theorem RecordTrue.learn {e l : Nat} {r : Extent} (h : RecordTrue e none r) (he : 0 < e) (he4 : 4 ∣ e)
    (hends : ∀ g ∈ r.ranges, r.index * e + g.2 ≤ l) : RecordTrue e (some l) r := by
  have hfits : ∀ g ∈ r.ranges, g.2 ≤ extentLength e (some l) r.index := fun g hg =>
    le_extentLength (h.fits g hg).1 (by simpa using hends g hg)
  refine ⟨h.ordered, h.few, fun g hg => ⟨hfits g hg, (h.fits g hg).2.1, .inl ?_⟩, fun hst => ?_⟩
  · rcases (h.fits g hg).2.2 with h4 | hlen
    · exact h4
    · rw [hlen]
      exact Nat.mod_eq_zero_of_dvd he4
  · have hfull : r.ranges = [(0, e)] := h.full hst
    have hle : e ≤ extentLength e (some l) r.index := hfits (0, e) (by rw [hfull]; exact List.mem_singleton_self _)
    rw [hfull, (extentLength_le he ..).antisymm hle]

/-! ## What the updates of the state keep of R74 -/

/-- R74 stays true of a state whose records are old ones or are as R74 says, L being what it was. -/
theorem recordsUnder_of_records {len : Nat → Option Nat → Option Nat} {s t : State} (hs : RecordsUnder len s)
    (hsize : t.extentSize = s.extentSize)
    (hctx : ∀ i d, ctxOf t i = some d → ∃ c, ctxOf s i = some c ∧ c.length = d.length)
    (hrec : ∀ x ∈ t.extents, x ∈ s.extents ∨
      ∀ d ∈ ctxOf t x.2.stream, RecordTrue (extentBytes s.extentSize) (len x.2.stream d.length) x.2) :
    RecordsUnder len t := by
  intro x hx d hd
  rw [hsize]
  rcases hrec x hx with hold | hnew
  · obtain ⟨c, hc, hlength⟩ := hctx _ d hd
    rw [← hlength]
    exact hs x hold c hc
  · exact hnew d hd

/-- R74 reads the contexts, the records and the extent size. -/
theorem recordsUnder_congr {len : Nat → Option Nat → Option Nat} {s t : State} (hs : RecordsUnder len s)
    (hsize : t.extentSize = s.extentSize) (hctx : t.contexts = s.contexts) (hext : t.extents = s.extents) :
    RecordsUnder len t :=
  recordsUnder_of_records hs hsize (fun i d hd => ⟨d, by rwa [ctxOf, ← hctx], rfl⟩) fun x hx => .inl (hext ▸ hx)

theorem recordsUnder_setCtx {len : Nat → Option Nat → Option Nat} {s : State} (hs : RecordsUnder len s) {i : Nat}
    {c d : Context} (hc : ctxOf s i = some c) (hlength : d.length = c.length) : RecordsUnder len (setCtx s i d) := by
  refine recordsUnder_of_records hs rfl (fun j b hb => ?_) fun x hx => .inl hx
  rw [ctxOf_setCtx] at hb
  split at hb
  · next hji =>
    obtain rfl : d = b := Option.some.inj hb
    exact ⟨c, hji ▸ hc, hlength.symm⟩
  · exact ⟨b, hb, rfl⟩

theorem recordsUnder_modCtx {len : Nat → Option Nat → Option Nat} {s : State} (hs : RecordsUnder len s) (i : Nat)
    {f : Context → Context} (hlength : ∀ c, (f c).length = c.length) : RecordsUnder len (modCtx s i f) := by
  cases hc : ctxOf s i with
  | none =>
    rw [modCtx_of_none hc]
    exact hs
  | some c =>
    rw [modCtx_of_some hc]
    exact recordsUnder_setCtx hs hc (hlength c)

theorem recordsUnder_setExtent {len : Nat → Option Nat → Option Nat} {s : State} (hs : RecordsUnder len s) (slot : Nat)
    {r : Extent} (hr : ∀ c ∈ ctxOf s r.stream, RecordTrue (extentBytes s.extentSize) (len r.stream c.length) r) :
    RecordsUnder len (setExtent s slot r) := by
  refine recordsUnder_of_records hs rfl (fun i d hd => ⟨d, hd, rfl⟩) fun x hx => ?_
  rcases mem_tabSet hx with rfl | hold
  · exact .inr hr
  · exact .inl hold

/-- What R74 says of the record bound to a slot. -/
theorem recordTrue_of_tabGet {len : Nat → Option Nat → Option Nat} {s : State} (hs : RecordsUnder len s) {slot : Nat}
    {r : Extent} {c : Context} (hr : tabGet s.extents slot = some r) (hc : ctxOf s r.stream = some c) :
    RecordTrue (extentBytes s.extentSize) (len r.stream c.length) r :=
  hs (slot, r) (mem_of_tabGet hr) c hc

/-- A new record has no range, so its allocation keeps R74 (R66). -/
theorem recordsUnder_createExtent {len : Nat → Option Nat → Option Nat} {s : State} (hs : RecordsUnder len s)
    (i k : Nat) (v : Option Pcv) : RecordsUnder len (createExtent s i k v) := by
  unfold createExtent
  split
  · exact hs
  · next slot rest hfree =>
    have hlist : RecordsUnder len { s with freeSlots := rest } := recordsUnder_congr hs rfl rfl rfl
    exact recordsUnder_modCtx (recordsUnder_setExtent hlist slot fun _ _ => recordTrue_of_empty rfl rfl _ _) i
      fun _ => rfl

theorem mem_of_mem_tabErase {α : Type} {t : Table α} {k : Nat} {x : Nat × α} (h : x ∈ tabErase t k) : x ∈ t := by
  rw [tabErase_eq_filter] at h
  exact List.mem_of_mem_filter h

theorem recordsTrue_restartTimer {s : State} (hs : RecordsTrue s) (i : Nat) : RecordsTrue (restartTimer s i) :=
  recordsUnder_modCtx hs i fun c => by
    split <;> rfl

/-! ## The freeing of records and failure handling (R11, R14, R60) -/

theorem recordsTrue_unlinkExtent {s : State} (hs : RecordsTrue s) (slot : Nat) (r : Extent) :
    RecordsTrue (unlinkExtent s slot r) := by
  unfold unlinkExtent
  split
  · exact recordsUnder_modCtx hs _ fun _ => rfl
  · exact recordsUnder_modCtx hs _ fun _ => rfl
  · split
    · exact hs
    · exact recordsUnder_congr hs rfl rfl rfl
  · exact recordsUnder_congr hs rfl rfl rfl

theorem recordsTrue_freeExtent {s : State} (hs : RecordsTrue s) (slot : Nat) : RecordsTrue (freeExtent s slot) := by
  unfold freeExtent
  split
  · exact hs
  · next r hr =>
    have hunlinked := recordsUnder_modCtx (recordsTrue_unlinkExtent hs slot r) r.stream
      (f := fun c => { c with held := c.held - 1 }) fun _ => rfl
    exact recordsUnder_of_records hunlinked rfl (fun i d hd => ⟨d, hd, rfl⟩) fun x hx => .inl (mem_of_mem_tabErase hx)

theorem recordsTrue_freeExtents {s : State} (hs : RecordsTrue s) (slots : List Nat) : RecordsTrue (freeExtents s slots) :=
  List.foldlRecOn (motive := RecordsTrue) slots freeExtent hs fun _ ht slot _ => recordsTrue_freeExtent ht slot

theorem recordsTrue_holdIfReady {s : State} (hs : RecordsTrue s) (i : Nat) (q : Fin 4) : RecordsTrue (holdIfReady s i q) := by
  unfold holdIfReady
  split
  · exact hs
  · exact recordsUnder_congr hs rfl rfl rfl

theorem recordsTrue_failStream {s : State} (hs : RecordsTrue s) (i : Nat) (cause : Cause) :
    RecordsTrue (failStream s i cause) := by
  unfold failStream
  split
  · exact hs
  · next c hc =>
    split
    · exact hs
    · have hfailed := recordsUnder_setCtx hs hc (d := { c with state := .failed, cause := some cause }) rfl
      exact recordsUnder_modCtx (recordsTrue_holdIfReady (recordsTrue_freeExtents hfailed _) i c.queue) i fun _ => rfl

theorem recordsTrue_abortStreamAt {s : State} (hs : RecordsTrue s) (i : Nat) : RecordsTrue (abortStreamAt s i) :=
  recordsUnder_modCtx (recordsTrue_freeExtents hs _) i fun _ => rfl

/-! ## DONE, the seal, the compare and the routing (R9, R70, R105, R106, R110) -/

theorem recordsTrue_enterDone {s : State} (hs : RecordsTrue s) (i n : Nat) : RecordsTrue (enterDone s i n) :=
  recordsUnder_modCtx hs i fun _ => rfl

theorem recordsTrue_evalDone {s : State} (hs : RecordsTrue s) (i : Nat) : RecordsTrue (evalDone s i) := by
  unfold evalDone
  split
  · exact hs
  · split
    · dsimp only
      split
      · exact hs
      · split
        · split
          · exact recordsTrue_enterDone hs _ _
          · exact recordsTrue_failStream hs _ _
        · split
          · exact hs
          · exact recordsTrue_enterDone hs _ _
    · exact hs

/-- The seal of a complete extent keeps R74. -/
theorem recordsTrue_sealExtent {s : State} (hs : RecordsTrue s) {slot : Nat} {r : Extent}
    (hr : tabGet s.extents slot = some r) (hfull : ∀ c ∈ ctxOf s r.stream, complete s c r = true) (checked : Bool) :
    RecordsTrue (sealExtent s slot checked) := by
  unfold sealExtent
  rw [hr]
  dsimp only
  split
  · exact hs
  · next c hc =>
    refine recordsTrue_evalDone (recordsTrue_restartTimer ?_ _) _
    have hready := recordsUnder_setExtent hs slot (r := { r with state := .ready, checked := checked }) fun d hd =>
      (recordTrue_of_tabGet hs hr hd).of_full (beq_iff_eq.1 (hfull d hd)) rfl rfl
    exact recordsUnder_setCtx (i := r.stream) (recordsUnder_congr hready rfl rfl rfl) hc rfl

theorem recordsTrue_extentReset {s : State} (hs : RecordsTrue s) (slot : Nat) : RecordsTrue (extentReset s slot) := by
  unfold extentReset
  split
  · exact hs
  · exact recordsUnder_modCtx (recordsUnder_setExtent hs slot fun _ _ => recordTrue_of_empty rfl rfl _ _) _ fun _ => rfl

/-- The compare of a complete extent keeps R74. -/
theorem recordsTrue_compareExtent {s : State} (hs : RecordsTrue s) {slot : Nat} {r : Extent}
    (hr : tabGet s.extents slot = some r) (hfull : ∀ c ∈ ctxOf s r.stream, complete s c r = true) :
    RecordsTrue (compareExtent s slot).1 := by
  unfold compareExtent
  rw [hr]
  dsimp only
  split
  · exact recordsTrue_sealExtent hs hr hfull true
  · split
    · exact hs
    · split
      · exact recordsTrue_extentReset hs slot
      · exact recordsTrue_failStream hs _ _

theorem recordsTrue_routeComplete {s : State} (hs : RecordsTrue s) (slot : Nat) : RecordsTrue (routeComplete s slot) := by
  unfold routeComplete
  split
  · exact hs
  next r hr =>
  split
  · exact hs
  next c hc =>
  split
  · next hready =>
    have hfull : ∀ d ∈ ctxOf s r.stream, complete s d r = true := fun d hd => by
      obtain rfl : c = d := Option.some.inj (hc.symm.trans hd)
      exact hready.2
    split
    · exact recordsTrue_compareExtent hs hr hfull
    · split
      · exact recordsUnder_setExtent hs slot fun d hd =>
          (recordTrue_of_tabGet hs hr hd).of_full (beq_iff_eq.1 (hfull d hd)) rfl rfl
      · exact recordsTrue_sealExtent hs hr hfull false
  · exact hs

theorem recordsTrue_routeLast {s : State} (hs : RecordsTrue s) (i l : Nat) : RecordsTrue (routeLast s i l) := by
  unfold routeLast
  dsimp only
  split
  · split
    · exact hs
    · exact recordsTrue_routeComplete hs _
  · exact hs

/-- A record that waits for its value is complete, so its compare keeps R74 (R71). -/
theorem recordsTrue_storeCheck {s : State} (hs : RecordsTrue s) (slot : Nat) (v : Pcv) :
    RecordsTrue (storeCheck s slot v).1 := by
  unfold storeCheck
  split
  · exact hs
  next r hr =>
  have hstored : RecordsTrue (setExtent s slot { r with expected := some v }) :=
    recordsUnder_setExtent hs slot fun d hd => (recordTrue_of_tabGet hs hr hd).congr rfl rfl rfl
  split
  · next hwaits =>
    refine recordsTrue_compareExtent hstored (tabGet_tabSet_same ..) fun d hd => beq_iff_eq.2 ?_
    exact (recordTrue_of_tabGet hs hr hd).full (by rw [hwaits]; decide)
  · exact hstored

theorem recordsTrue_storeObjectCheck {s : State} (hs : RecordsTrue s) (i : Nat) (v : Pcv) :
    RecordsTrue (storeObjectCheck s i v) :=
  recordsTrue_evalDone (recordsUnder_modCtx hs i (f := fun c => { c with expected := some v }) fun _ => rfl) i

/-! ## The learning of L (R24, R26) -/

/-- The object length of stream `i` taken as `l`, that of every other as its context says. -/
def lengthTaken (i : Nat) (l : Option Nat) : Nat → Option Nat → Option Nat := fun j m => if j = i then l else m

theorem lengthTaken_same (i : Nat) (l m : Option Nat) : lengthTaken i l i m = l := if_pos rfl

theorem recordsUnder_lengthTaken_self {s : State} (hs : RecordsTrue s) {i : Nat} {c : Context} (hc : ctxOf s i = some c) :
    RecordsUnder (lengthTaken i c.length) s := by
  intro x hx d hd
  have hrec : RecordTrue (extentBytes s.extentSize) d.length x.2 := hs x hx d hd
  rw [lengthTaken]
  split
  · next hi =>
    rw [hi] at hd
    obtain rfl : c = d := Option.some.inj (hc.symm.trans hd)
    exact hrec
  · exact hrec

/-- A proposed L that passes the tests of R24 lies at or above the end of every fill range of the stream. -/
theorem range_end_le_of_no_conflict {s : State} {i l : Nat} {c : Context} (h : lengthConflict s i c l = false)
    {x : Nat × Extent} (hx : x ∈ s.extents) (hi : x.2.stream = i) :
    ∀ g ∈ x.2.ranges, x.2.index * extentBytes s.extentSize + g.2 ≤ l := by
  unfold lengthConflict at h
  simp only [Bool.or_eq_false_iff] at h
  obtain ⟨⟨⟨hranges, -⟩, -⟩, -⟩ := h
  have hmem : x ∈ recordsOf s i := List.mem_filter.2 ⟨hx, beq_iff_eq.2 hi⟩
  intro g hg
  have hg' := List.any_eq_false.1 (eq_false_of_ne_true (List.any_eq_false.1 hranges x hmem)) g hg
  simpa using hg'

theorem recordsUnder_lengthTaken_of_no_conflict {s : State} (hs : RecordsTrue s) {i l : Nat} {c : Context}
    (hc : ctxOf s i = some c) (hnone : c.length = none) (h : lengthConflict s i c l = false) :
    RecordsUnder (lengthTaken i (some l)) s := by
  intro x hx d hd
  have hrec : RecordTrue (extentBytes s.extentSize) d.length x.2 := hs x hx d hd
  rw [lengthTaken]
  split
  · next hi =>
    rw [hi] at hd
    obtain rfl : c = d := Option.some.inj (hc.symm.trans hd)
    rw [hnone] at hrec
    exact hrec.learn (extentBytes_pos _) (four_dvd_extentBytes _) (range_end_le_of_no_conflict h hx hi)
  · exact hrec

/-- The learning of an L under which the records are already as R74 says. -/
theorem recordsTrue_learnLength {s : State} {i l : Nat} {c : Context} (hs : RecordsUnder (lengthTaken i (some l)) s)
    (hc : ctxOf s i = some c) (hopen : c.state = .opened) : RecordsTrue (learnLength s i l) := by
  rw [learnLength, hc]
  dsimp only
  rw [if_pos hopen]
  refine recordsTrue_evalDone (recordsTrue_routeLast (fun x hx d hd => ?_) i l) i
  rw [Option.mem_def, ctxOf_setCtx] at hd
  split at hd
  · next hi =>
    obtain rfl := Option.some.inj hd
    have hrec := hs x hx c (hi ▸ hc)
    rwa [hi, lengthTaken_same] at hrec
  · next hi =>
    have hrec := hs x hx d hd
    rwa [lengthTaken, if_neg hi] at hrec

/-! ## TRAILER (R49, R50) -/

theorem evalDone_of_opened {s : State} {i : Nat} {c : Context} (hc : ctxOf s i = some c) (hopen : c.state = .opened) :
    evalDone s i = s := by
  rw [evalDone, hc]
  dsimp only
  rw [hopen]

theorem recordsTrue_trailerStore {s : State} (hs : RecordsTrue s) (i : Nat) (c : Context) (a : TrailerArrival) :
    RecordsTrue (trailerStore s i c a) := by
  unfold trailerStore
  split
  · split
    · exact recordsTrue_storeObjectCheck hs _ _
    · exact hs
  · exact hs

/-- The storing of a TRAILER's value on an OPEN stream brings no DONE evaluation: the stream stays OPEN (R9, R50). -/
theorem trailerStore_of_opened {len : Nat → Option Nat → Option Nat} {s : State} (hs : RecordsUnder len s) {i : Nat}
    {c : Context} (hc : ctxOf s i = some c) (hopen : c.state = .opened) (a : TrailerArrival) :
    RecordsUnder len (trailerStore s i c a) ∧ ∃ d, ctxOf (trailerStore s i c a) i = some d ∧ d.state = .opened := by
  unfold trailerStore
  split
  · next x y hpcv =>
    split
    · rw [storeObjectCheck, modCtx_of_some hc,
        evalDone_of_opened (c := { c with expected := some (pcvOfWords x y) }) (ctxOf_setCtx_same ..) hopen]
      exact ⟨recordsUnder_setCtx hs hc rfl, _, ctxOf_setCtx_same .., hopen⟩
    · exact ⟨hs, c, hc, hopen⟩
  · exact ⟨hs, c, hc, hopen⟩

/-- An admitted TRAILER for a stream of unknown L passes the tests of R24 (R49, step 4). -/
theorem no_conflict_of_trailerCode {s : State} {i : Nat} {c : Context} {a : TrailerArrival}
    (h : trailerCode s i c a = none) (hnone : c.length = none) : lengthConflict s i c a.length.toNat = false := by
  unfold trailerCode at h
  split_ifs at h with hlong hvalue hlength
  all_goals
    rw [trailerLengthBad, hnone] at hlength
    exact eq_false_of_ne_true hlength

theorem recordsTrue_trailerEffects {s : State} (hs : RecordsTrue s) {i : Nat} {c : Context} (hc : ctxOf s i = some c)
    {a : TrailerArrival} (hcode : trailerCode s i c a = none) (hopen : c.length = none → c.state = .opened) :
    RecordsTrue (trailerEffects s i c a) := by
  have hlearnt : RecordsTrue (if c.length.isNone then learnLength (trailerStore s i c a) i a.length.toNat
      else trailerStore s i c a) := by
    split
    · next hisNone =>
      have hnone : c.length = none := Option.isNone_iff_eq_none.1 hisNone
      have hunder := recordsUnder_lengthTaken_of_no_conflict hs hc hnone (no_conflict_of_trailerCode hcode hnone)
      obtain ⟨hstored, d, hd, hdopen⟩ := trailerStore_of_opened hunder hc (hopen hnone) a
      exact recordsTrue_learnLength hstored hd hdopen
    · exact recordsTrue_trailerStore hs i c a
  unfold trailerEffects
  dsimp only
  split
  · exact recordsTrue_restartTimer hlearnt i
  · exact hlearnt

end Sys2Proof.Machine
end

section
/-! PROOFS. R74 and the SEGMENT (spec/02, section 2.5): the admission, the records that the targets go to, and the effects. -/
namespace Sys2Proof.Machine

/-! ## The admission of a SEGMENT (R39 to R44) -/

/-- L of a stream after an admitted segment: a FINAL segment supplies it when it was unknown (R24, R45 step 3). -/
def lengthAfter (c : Context) (a : SegmentArrival) : Option Nat :=
  if a.final && c.length.isNone then some (segmentEnd a) else c.length

theorem lengthAfter_of_some {c : Context} {l : Nat} (h : c.length = some l) (a : SegmentArrival) :
    lengthAfter c a = some l := by
  rw [lengthAfter, h, Option.isNone_some, Bool.and_false, if_neg Bool.false_ne_true]

theorem lengthAfter_of_not_final {c : Context} {a : SegmentArrival} (h : a.final = false) :
    lengthAfter c a = c.length := by
  rw [lengthAfter, h, Bool.false_and, if_neg Bool.false_ne_true]

theorem lengthAfter_of_final {c : Context} {a : SegmentArrival} (h : c.length = none) (hfinal : a.final = true) :
    lengthAfter c a = some (segmentEnd a) := by
  rw [lengthAfter, h, hfinal, Option.isNone_none, Bool.and_self, if_pos rfl]

/-- A segment that passes step 3 (R39). -/
theorem segmentFormat_eq_none {a : SegmentArrival} (h : segmentFormat a = none) :
    a.offset.toNat % 4 = 0 ∧ 0 < a.payload.length ∧ (a.final = false → a.payload.length % 4 = 0) := by
  unfold segmentFormat at h
  split_ifs at h with halign hlen hmultiple
  refine ⟨by omega, by omega, fun hfinal => ?_⟩
  by_contra hne
  exact hmultiple ⟨hfinal, hne⟩

/-- A segment that passes step 4 ends within L, a FINAL one at L (R40). -/
theorem segmentEnd_of_segmentLength {s : State} {i : Nat} {c : Context} {a : SegmentArrival}
    (h : segmentLength s i c a = none) :
    (∀ m ∈ lengthAfter c a, segmentEnd a ≤ m) ∧ (a.final = true → lengthAfter c a = some (segmentEnd a)) := by
  unfold segmentLength at h
  cases hlength : c.length with
  | some l =>
    rw [hlength] at h
    rw [lengthAfter_of_some hlength]
    dsimp only at h
    split_ifs at h with htop hfinal heq hbeyond
    · exact ⟨by simp [heq], fun _ => by rw [heq]⟩
    · exact ⟨by simpa using hbeyond, fun hf => absurd hf hfinal⟩
  | none =>
    cases hfinal : a.final with
    | true => simp [lengthAfter_of_final hlength hfinal]
    | false => simp [lengthAfter_of_not_final hfinal, hlength]

/-- The pieces of a segment that passes steps 3 and 4 fit their extents, L being what it is after the segment. -/
theorem pieceFits_of_segment {s : State} {i : Nat} {c : Context} {a : SegmentArrival} (hformat : segmentFormat a = none)
    (hlength : segmentLength s i c a = none) :
    ∀ p ∈ piecesOf (extentBytes s.extentSize) a.offset.toNat a.payload.length,
      PieceFits (extentBytes s.extentSize) (lengthAfter c a) p := by
  obtain ⟨halign, hpos, hmultiple⟩ := segmentFormat_eq_none hformat
  obtain ⟨hend, hfinal⟩ := segmentEnd_of_segmentLength hlength
  refine pieceFits_of_mem_piecesOf (extentBytes_pos _) (four_dvd_extentBytes _) halign hpos hend ?_
  cases hf : a.final with
  | true => exact .inr (hfinal hf)
  | false =>
    have := hmultiple hf
    exact .inl (by omega)

/-- The records are as R74 says under the L of after the segment already before it. -/
theorem recordsUnder_lengthAfter {s : State} (hs : RecordsTrue s) {i : Nat} {c : Context} (hc : ctxOf s i = some c)
    {a : SegmentArrival} (hlength : segmentLength s i c a = none) : RecordsUnder (lengthTaken i (lengthAfter c a)) s := by
  by_cases hlearns : c.length = none ∧ a.final = true
  · obtain ⟨hnone, hfinal⟩ := hlearns
    rw [lengthAfter_of_final hnone hfinal]
    refine recordsUnder_lengthTaken_of_no_conflict hs hc hnone (eq_false_of_ne_true fun hconflict => ?_)
    rw [segmentLength, hnone, hfinal, hconflict] at hlength
    dsimp at hlength
    split_ifs at hlength
  · have hsame : lengthAfter c a = c.length :=
      if_neg (by simpa [and_comm] using hlearns)
    rw [hsame]
    exact recordsUnder_lengthTaken_self hs hc

/-- Steps 5 to 7 of an admitted segment: no piece gives nine ranges, and there is a free slot for each new record (R43,
R44). -/
theorem segmentRoom_eq_none {s : State} {c : Context} {ps : List (Piece × Place)} (h : segmentRoom s c ps = none) :
    (∀ x ∈ ps, overRangeLimit x.1 x.2 = false) ∧
      (ps.filter (fun x => needsRecord x.2)).length ≤ s.freeSlots.length := by
  unfold segmentRoom at h
  split_ifs at h with hwindow hlimit hroom
  exact ⟨by simpa using hlimit, by omega⟩

/-- The admission of a segment: no target on a stream in DONE, otherwise those of its placed pieces. -/
theorem segmentAdmission_eq_ok {s : State} {i : Nat} {c : Context} {a : SegmentArrival} {ts : List Target}
    (h : segmentAdmission s i c a = .ok ts) :
    segmentFormat a = none ∧ segmentLength s i c a = none ∧
      (ts = [] ∨ (segmentRoom s c (placedPieces s i c a) = none ∧ ts = targetsOf s.freeSlots (placedPieces s i c a))) := by
  unfold segmentAdmission at h
  cases hformat : segmentFormat a with
  | some code => simp [hformat] at h
  | none =>
    cases hlength : segmentLength s i c a with
    | some code => simp [hformat, hlength] at h
    | none =>
      refine ⟨rfl, rfl, ?_⟩
      simp only [hformat, hlength] at h
      split at h
      · cases h
        exact .inl rfl
      · cases hroom : segmentRoom s c (placedPieces s i c a) with
        | some code => simp [hroom] at h
        | none =>
          simp only [hroom] at h
          cases h
          exact .inr ⟨rfl, rfl⟩

/-! ## The targets of a SEGMENT and the records they go to (R42, R58) -/

theorem unsealedRecord_eq_some {s : State} (hw : tabWf s.extents = true) {i k slot : Nat} {r : Extent}
    (h : unsealedRecord s i k = some (slot, r)) : tabGet s.extents slot = some r ∧ r.stream = i ∧ r.index = k := by
  unfold unsealedRecord findUnsealed at h
  simp only [Option.bind_eq_some_iff, Option.map_eq_some_iff] at h
  obtain ⟨n, ⟨⟨m, q⟩, hfind, rfl⟩, ⟨q', hget, heq⟩⟩ := h
  cases heq
  have hq := tabGet_of_mem hw (List.mem_of_find?_eq_some hfind)
  obtain rfl : q = r := Option.some.inj (hq.symm.trans hget)
  have hmatch := List.find?_some hfind
  simp only [Bool.and_eq_true, beq_iff_eq] at hmatch
  obtain ⟨⟨hstream, hindex⟩, -⟩ := hmatch
  exact ⟨hget, hstream, hindex⟩

theorem placeOf_eq_live {s : State} {i : Nat} {c : Context} {p : Piece} {slot : Nat} {rs : List (Nat × Nat)}
    (h : placeOf s i c p = .live slot rs) : ∃ r, unsealedRecord s i p.index = some (slot, r) ∧ r.ranges = rs := by
  unfold placeOf at h
  split at h
  · cases h
  · split at h
    · cases h
    · cases h
    · split at h
      · cases h
      · next n r hrec =>
        cases h
        exact ⟨r, hrec, rfl⟩

/-- A target is one of the placed pieces, with the record of its LIVE position or with a new one. -/
theorem mem_targetsOf {free : List Nat} {ps : List (Piece × Place)} {t : Target} (h : t ∈ targetsOf free ps) :
    (t.fresh = true ∧ (t.piece, .absent) ∈ ps) ∨ (t.fresh = false ∧ ∃ rs, (t.piece, .live t.slot rs) ∈ ps) := by
  induction ps generalizing free with
  | nil => cases h
  | cons x ps ih =>
    have hlater {free' : List Nat} (h' : t ∈ targetsOf free' ps) :
        (t.fresh = true ∧ (t.piece, .absent) ∈ x :: ps) ∨
          (t.fresh = false ∧ ∃ rs, (t.piece, .live t.slot rs) ∈ x :: ps) :=
      (ih h').imp (fun ⟨hf, hm⟩ => ⟨hf, .tail _ hm⟩) fun ⟨hf, rs, hm⟩ => ⟨hf, rs, .tail _ hm⟩
    obtain ⟨p, place⟩ := x
    cases place with
    | duplicate => exact hlater h
    | live slot rs =>
      rw [targetsOf] at h
      split at h
      · exact hlater h
      · rcases List.mem_cons.1 h with rfl | h
        · exact .inr ⟨rfl, rs, .head _⟩
        · exact hlater h
    | absent =>
      rw [targetsOf] at h
      rcases List.mem_cons.1 h with rfl | h
      · exact .inl ⟨rfl, .head _⟩
      · exact hlater h

/-- The targets stand in the order of the placed pieces, each piece once at most. -/
theorem targetsOf_pieces_sublist (free : List Nat) (ps : List (Piece × Place)) :
    ((targetsOf free ps).map (·.piece)).Sublist (ps.map (·.1)) := by
  induction ps generalizing free with
  | nil => exact .refl _
  | cons x ps ih =>
    obtain ⟨p, place⟩ := x
    cases place with
    | duplicate => exact (ih free).cons p
    | live slot rs =>
      rw [targetsOf]
      split
      · exact (ih free).cons p
      · exact (ih free).cons_cons p
    | absent => exact (ih free.tail).cons_cons p

theorem createTargets_cons (s : State) (i : Nat) (t : Target) (ts : List Target) :
    createTargets s i (t :: ts) =
      createTargets (if t.fresh = true then createExtent s i t.piece.index none else s) i ts := by
  unfold createTargets
  rw [List.filter_cons]
  split <;> rfl

theorem createExtent_freeSlots {s : State} {slot : Nat} {rest : List Nat} (h : s.freeSlots = slot :: rest) (i k : Nat)
    (v : Option Pcv) : (createExtent s i k v).freeSlots = rest := by
  rw [createExtent, h, modCtx_freeSlots, setExtent_freeSlots]

theorem createExtent_extents {s : State} {slot : Nat} {rest : List Nat} (h : s.freeSlots = slot :: rest) (i k : Nat)
    (v : Option Pcv) : (createExtent s i k v).extents = tabSet s.extents slot (newExtent i k v) := by
  rw [createExtent, h, modCtx_extents, setExtent_extents]

/-- Step 1 of R45: every new target's slot is bound to a new record of its extent, and the slots that were not free are
bound as before. -/
theorem tabGet_createTargets {i : Nat} (ps : List (Piece × Place)) {s : State} (hnodup : s.freeSlots.Nodup)
    (hroom : (ps.filter (fun x => needsRecord x.2)).length ≤ s.freeSlots.length) :
    (∀ n, n ∉ s.freeSlots →
      tabGet (createTargets s i (targetsOf s.freeSlots ps)).extents n = tabGet s.extents n) ∧
    ∀ t ∈ targetsOf s.freeSlots ps, t.fresh = true →
      tabGet (createTargets s i (targetsOf s.freeSlots ps)).extents t.slot = some (newExtent i t.piece.index none) := by
  induction ps generalizing s with
  | nil => exact ⟨fun n _ => rfl, by simp [targetsOf]⟩
  | cons x ps ih =>
    obtain ⟨p, place⟩ := x
    cases place with
    | duplicate => exact ih hnodup hroom
    | live slot rs =>
      rw [targetsOf]
      split
      · exact ih hnodup hroom
      · rw [createTargets_cons, if_neg Bool.false_ne_true]
        obtain ⟨hkept, hnew⟩ := ih hnodup hroom
        exact ⟨hkept, List.forall_mem_cons.2 ⟨fun h => absurd h Bool.false_ne_true, hnew⟩⟩
    | absent =>
      cases hfree : s.freeSlots with
      | nil => simp [hfree, needsRecord] at hroom
      | cons slot rest =>
        rw [targetsOf, createTargets_cons, if_pos rfl, List.headD_cons, List.tail_cons]
        have hrest := createExtent_freeSlots hfree i p.index none
        have hext := createExtent_extents hfree i p.index none
        rw [hfree] at hnodup hroom
        obtain ⟨hslot, hnodup⟩ := List.nodup_cons.1 hnodup
        have hcount : (ps.filter (fun x => needsRecord x.2)).length ≤ rest.length := by
          simpa [needsRecord] using hroom
        have hlater := ih (s := createExtent s i p.index none) (hrest ▸ hnodup) (hrest ▸ hcount)
        rw [hrest, hext] at hlater
        obtain ⟨hkept, hnew⟩ := hlater
        refine ⟨fun n hn => ?_, List.forall_mem_cons.2 ⟨fun _ => ?_, hnew⟩⟩
        · rw [List.mem_cons, not_or] at hn
          exact (hkept n hn.2).trans (tabGet_tabSet_other _ _ hn.1)
        · exact (hkept slot hslot).trans (tabGet_tabSet_same ..)

/-- The slot of a target is bound to a record of the target's extent that takes the target's piece without a ninth range
(R43). -/
def TargetBound (s : State) (i : Nat) (t : Target) : Prop :=
  ∃ r, tabGet s.extents t.slot = some r ∧ r.stream = i ∧ r.index = t.piece.index ∧
    countAfter r.ranges t.piece.start t.piece.stop ≤ Config.maxRanges

theorem countAfter_nil (a b : Nat) : countAfter [] a b = 1 := rfl

/-- After step 1 of R45 every target of an admitted segment has its record. -/
theorem targetBound_createTargets {s : State} {i : Nat} {c : Context} {a : SegmentArrival}
    (hw : tabWf s.extents = true) (hnodup : s.freeSlots.Nodup) (hfree : ∀ n ∈ s.freeSlots, tabGet s.extents n = none)
    (hroom : segmentRoom s c (placedPieces s i c a) = none) :
    ∀ t ∈ targetsOf s.freeSlots (placedPieces s i c a),
      TargetBound (createTargets s i (targetsOf s.freeSlots (placedPieces s i c a))) i t := by
  obtain ⟨hlimit, hcount⟩ := segmentRoom_eq_none hroom
  obtain ⟨hkept, hnew⟩ := tabGet_createTargets (i := i) _ hnodup hcount
  intro t ht
  rcases mem_targetsOf ht with ⟨hfresh, -⟩ | ⟨-, rs, hplaced⟩
  · exact ⟨_, hnew t ht hfresh, rfl, rfl, (countAfter_nil ..).trans_le (by decide)⟩
  · obtain ⟨p, -, hp⟩ := List.mem_map.1 hplaced
    obtain ⟨rfl, hplace⟩ := Prod.mk.inj hp
    obtain ⟨r, hrec, rfl⟩ := placeOf_eq_live hplace
    obtain ⟨hget, hstream, hindex⟩ := unsealedRecord_eq_some hw hrec
    have hbound : t.slot ∉ s.freeSlots := fun hmem => by simp [hfree _ hmem] at hget
    refine ⟨r, (hkept _ hbound).trans hget, hstream, hindex, ?_⟩
    simpa [overRangeLimit] using hlimit _ hplaced

/-! ## The effects of a SEGMENT (R45) -/

theorem recordsUnder_createTargets {len : Nat → Option Nat → Option Nat} {s : State} (hs : RecordsUnder len s) (i : Nat)
    (ts : List Target) : RecordsUnder len (createTargets s i ts) :=
  List.foldlRecOn (motive := RecordsUnder len) _ _ hs fun _ hu _ _ => recordsUnder_createExtent hu _ _ _

/-- Step 2 of R45 for a target: its record takes the piece. -/
theorem writeTarget_of_tabGet {s : State} {t : Target} {r : Extent} (hr : tabGet s.extents t.slot = some r)
    (a : SegmentArrival) :
    ∃ m acc, writeTarget a s t =
      setExtent { s with mem := m } t.slot
        { r with ranges := insertRange r.ranges t.piece.start t.piece.stop, acc := acc } := by
  rw [writeTarget, hr]
  exact ⟨_, _, rfl⟩

theorem recordsUnder_writeTarget {i : Nat} {l : Option Nat} {s : State} (hs : RecordsUnder (lengthTaken i l) s) {t : Target}
    (hbound : TargetBound s i t) (hfits : PieceFits (extentBytes s.extentSize) l t.piece) (a : SegmentArrival) :
    RecordsUnder (lengthTaken i l) (writeTarget a s t) := by
  obtain ⟨r, hr, hstream, hindex, hfew⟩ := hbound
  obtain ⟨m, acc, hwrite⟩ := writeTarget_of_tabGet hr a
  rw [hwrite]
  have hmem : RecordsUnder (lengthTaken i l) { s with mem := m } := recordsUnder_congr hs rfl rfl rfl
  refine recordsUnder_setExtent hmem t.slot fun c hc => ?_
  have hrec := recordTrue_of_tabGet hs hr hc
  rw [hstream, lengthTaken_same] at hrec ⊢
  exact hrec.insert hfits hindex.symm hfew rfl rfl rfl

/-- The targets of a segment are written one after the other: they lie in different extents, so each record is as before
when its turn comes. -/
theorem recordsUnder_writeTargets {i : Nat} {l : Option Nat} (a : SegmentArrival) (ts : List Target) {s : State}
    (hs : RecordsUnder (lengthTaken i l) s) (hbound : ∀ t ∈ ts, TargetBound s i t)
    (hfits : ∀ t ∈ ts, PieceFits (extentBytes s.extentSize) l t.piece)
    (hnodup : (ts.map (·.piece.index)).Nodup) : RecordsUnder (lengthTaken i l) (ts.foldl (writeTarget a) s) := by
  induction ts generalizing s with
  | nil => exact hs
  | cons t ts ih =>
    obtain ⟨hfirst, hlater⟩ := List.forall_mem_cons.1 hbound
    obtain ⟨hfirstFits, hlaterFits⟩ := List.forall_mem_cons.1 hfits
    obtain ⟨hindex, hnodup⟩ := List.nodup_cons.1 hnodup
    have hwritten := recordsUnder_writeTarget hs hfirst hfirstFits a
    obtain ⟨r, hr, -, hri, -⟩ := hfirst
    obtain ⟨m, acc, hwrite⟩ := writeTarget_of_tabGet hr a
    have hsize : (writeTarget a s t).extentSize = s.extentSize := by rw [hwrite, setExtent_extentSize]
    refine ih hwritten (fun u hu => ?_) (by rwa [hsize]) hnodup
    obtain ⟨q, hq, hqs, hqi, hqfew⟩ := hlater u hu
    have hne : u.slot ≠ t.slot := fun heq => by
      rw [heq, hr] at hq
      obtain rfl := Option.some.inj hq
      exact hindex (List.mem_map.2 ⟨u, hu, hqi.symm.trans hri⟩)
    exact ⟨q, by rw [hwrite, setExtent_extents, tabGet_tabSet_other _ _ hne]; exact hq, hqs, hqi, hqfew⟩

/-- Context `i` of `t` is not FREE and has the state and the L of context `c`. -/
def StaysAs (c : Context) (i : Nat) (t : State) : Prop :=
  ∃ d, ctxOf t i = some d ∧ d.state = c.state ∧ d.length = c.length

theorem staysAs_createExtent {c : Context} {i : Nat} {s : State} (hs : StaysAs c i s) (j k : Nat) (v : Option Pcv) :
    StaysAs c i (createExtent s j k v) := by
  obtain ⟨d, hd, hstate, hlength⟩ := hs
  unfold createExtent
  split
  · exact ⟨d, hd, hstate, hlength⟩
  · rw [StaysAs, ctxOf_modCtx]
    split
    · next hij =>
      subst hij
      rw [ctxOf_setExtent]
      exact ⟨_, congrArg _ hd, hstate, hlength⟩
    · exact ⟨d, hd, hstate, hlength⟩

theorem staysAs_writeTarget {c : Context} {i : Nat} {s : State} (hs : StaysAs c i s) (a : SegmentArrival) (t : Target) :
    StaysAs c i (writeTarget a s t) := by
  unfold writeTarget
  split <;> exact hs

/-- Steps 1 to 3 of R45 on records that are as R74 says under the L of after the segment. -/
theorem recordsTrue_segmentLearn {s : State} {i : Nat} {c : Context} {a : SegmentArrival}
    (hs : RecordsUnder (lengthTaken i (lengthAfter c a)) s) (hstays : StaysAs c i s)
    (hopen : c.length = none → c.state = .opened) : RecordsTrue (segmentLearn s i c a) := by
  obtain ⟨d, hd, hstate, hlength⟩ := hstays
  unfold segmentLearn
  split
  · next hlearns =>
    obtain ⟨-, hisNone⟩ := (Bool.and_eq_true ..).mp hlearns
    rw [lengthAfter, if_pos hlearns] at hs
    exact recordsTrue_learnLength hs hd (hstate.trans (hopen (Option.isNone_iff_eq_none.1 hisNone)))
  · next hknown =>
    rw [lengthAfter, if_neg hknown, ← hlength] at hs
    intro x hx b hb
    have hrec := hs x hx b hb
    rw [lengthTaken] at hrec
    split at hrec
    · next hi =>
      rw [hi] at hb
      obtain rfl : d = b := Option.some.inj (hd.symm.trans hb)
      exact hrec
    · exact hrec

theorem placedPieces_map_fst (s : State) (i : Nat) (c : Context) (a : SegmentArrival) :
    (placedPieces s i c a).map (·.1) = piecesOf (extentBytes s.extentSize) a.offset.toNat a.payload.length := by
  rw [placedPieces, List.map_map]
  exact List.map_id _

/-- Steps 1 and 2 of R45 on a segment whose pieces have room and fit their extents. -/
theorem recordsUnder_writtenTargets {s : State} {i : Nat} {c : Context} {a : SegmentArrival} {l : Option Nat}
    (hs : RecordsUnder (lengthTaken i l) s) (hw : tabWf s.extents = true) (hnodup : s.freeSlots.Nodup)
    (hfree : ∀ n ∈ s.freeSlots, tabGet s.extents n = none) (hroom : segmentRoom s c (placedPieces s i c a) = none)
    (hfits : ∀ p ∈ piecesOf (extentBytes s.extentSize) a.offset.toNat a.payload.length,
      PieceFits (extentBytes s.extentSize) l p) {ts : List Target}
    (hts : ts = targetsOf s.freeSlots (placedPieces s i c a)) :
    RecordsUnder (lengthTaken i l) (ts.foldl (writeTarget a) (createTargets s i ts)) := by
  have hbound := targetBound_createTargets hw hnodup hfree hroom
  have hpieces := targetsOf_pieces_sublist s.freeSlots (placedPieces s i c a)
  rw [placedPieces_map_fst] at hpieces
  rw [← hts] at hbound hpieces
  have hheld : HeldWork s (createTargets s i ts) := HeldWork.foldl _ (fun _ _ => heldWork_createExtent ..) _ s
  have hindexes := (piecesOf_index_nodup _ _ _).sublist (hpieces.map (·.index))
  rw [List.map_map] at hindexes
  refine recordsUnder_writeTargets a ts (recordsUnder_createTargets hs i ts) hbound (fun t ht => ?_) hindexes
  rw [hheld.extentSize]
  exact hfits _ (hpieces.subset (List.mem_map_of_mem ht))

theorem recordsTrue_segmentEffects {s : State} {i : Nat} {c : Context} {a : SegmentArrival} {ts : List Target}
    (hs : RecordsTrue s) (hw : tabWf s.extents = true) (hnodup : s.freeSlots.Nodup)
    (hfree : ∀ n ∈ s.freeSlots, tabGet s.extents n = none) (hc : ctxOf s i = some c)
    (hopen : c.length = none → c.state = .opened) (hok : segmentAdmission s i c a = .ok ts) :
    RecordsTrue (segmentEffects s i c a ts) := by
  obtain ⟨hformat, hlength, htargets⟩ := segmentAdmission_eq_ok hok
  have hunder := recordsUnder_lengthAfter hs hc hlength
  have hwritten : RecordsUnder (lengthTaken i (lengthAfter c a)) (ts.foldl (writeTarget a) (createTargets s i ts)) := by
    rcases htargets with rfl | ⟨hroom, hts⟩
    · exact hunder
    · exact recordsUnder_writtenTargets hunder hw hnodup hfree hroom (pieceFits_of_segment hformat hlength) hts
  have hstays : StaysAs c i (ts.foldl (writeTarget a) (createTargets s i ts)) := by
    have hcreate : StaysAs c i (createTargets s i ts) :=
      List.foldlRecOn (motive := StaysAs c i) _ _ ⟨c, hc, rfl, rfl⟩ fun _ hu _ _ => staysAs_createExtent hu _ _ _
    exact List.foldlRecOn (motive := StaysAs c i) _ _ hcreate fun _ hu t _ => staysAs_writeTarget hu a t
  have hlearnt := recordsTrue_segmentLearn hwritten hstays hopen
  have hrouted : RecordsTrue (ts.foldl (fun s t => routeComplete s t.slot)
      (segmentLearn (ts.foldl (writeTarget a) (createTargets s i ts)) i c a)) :=
    List.foldlRecOn (motive := fun u => RecordsTrue u) _ _ hlearnt fun _ hu _ _ => recordsTrue_routeComplete hu _
  unfold segmentEffects
  dsimp only
  rw [segmentRestart]
  split
  · exact hrouted
  · exact recordsTrue_restartTimer hrouted i

end Sys2Proof.Machine
end

section
/-! PROOFS. R74 and the commands: each row of the opcode table keeps it, and statement O57. -/
namespace Sys2Proof.Machine

/-! ## What the commands lean on -/

/-- What of the invariants of the part the keeping of R74 leans on. -/
structure FillReady (s : State) : Prop where
  contexts : tabWf s.contexts = true
  extents : tabWf s.extents = true
  freeNodup : s.freeSlots.Nodup
  freeUnbound : ∀ n ∈ s.freeSlots, tabGet s.extents n = none
  owned : ∀ x ∈ s.extents, (ctxOf s x.2.stream).isSome = true
  states : ∀ y ∈ s.contexts, StateTrue s y.1 y.2
  queued : ∀ q : Fin 4, ∀ h ∈ s.ready[q], namesRecord s .ready h = true
  claimed : ∀ h ∈ s.claims, namesRecord s .claimed h = true
  records : RecordsTrue s

theorem fillReady_of_invariants {s : State} (hpool : PoolTrue s) (hqueues : QueuesExact s) (hclaims : ClaimsExact s)
    (hstreams : StreamsTrue s) (hranges : RangesTrue s) : FillReady s := by
  obtain ⟨⟨hctx, hext, -, -⟩, hslots, howned, -⟩ := hpool
  obtain ⟨hfree, -, hdisjoint⟩ := List.nodup_append.1 (hslots.nodup_iff.2 List.nodup_range)
  exact {
    contexts := hctx
    extents := hext
    freeNodup := hfree
    freeUnbound := fun n hn => Option.eq_none_iff_forall_ne_some.2 fun r hr =>
      hdisjoint n hn n (List.mem_map_of_mem (mem_of_tabGet hr)) rfl
    owned := howned
    states := fun y hy => (hstreams y hy).1
    queued := fun q h hh => (hqueues.2.1 q h hh).1
    claimed := hclaims.2.2.1
    records := (rangesTrue_iff s).1 hranges }

theorem FillReady.congr {s t : State} (hs : FillReady s) (hsize : t.extentSize = s.extentSize)
    (hctx : t.contexts = s.contexts) (hext : t.extents = s.extents) (hfree : t.freeSlots = s.freeSlots)
    (hgens : t.gens = s.gens) (hready : t.ready = s.ready) (hclaims : t.claims = s.claims) : FillReady t := by
  cases s
  cases t
  dsimp only at hsize hctx hext hfree hgens hready hclaims
  subst hsize hctx hext hfree hgens hready hclaims
  exact ⟨hs.contexts, hs.extents, hs.freeNodup, hs.freeUnbound, hs.owned, hs.states, hs.queued, hs.claimed, hs.records⟩

theorem fillReady_inputQueue {s : State} (hs : FillReady s) (l : List Arrival) : FillReady { s with inputQueue := l } :=
  hs.congr rfl rfl rfl rfl rfl rfl rfl

theorem fillReady_commands {s : State} (hs : FillReady s) (l : List CommandRecord) :
    FillReady { s with commands := l } :=
  hs.congr rfl rfl rfl rfl rfl rfl rfl

theorem fillReady_pending {s : State} (hs : FillReady s) (l : List Instr) : FillReady { s with pending := l } :=
  hs.congr rfl rfl rfl rfl rfl rfl rfl

theorem fillReady_countLink {s : State} (hs : FillReady s) (link : Fin 4) (f : LinkCounters → LinkCounters) :
    FillReady (countLink s link f) :=
  hs.congr rfl rfl rfl rfl rfl rfl rfl

/-- The record that a handle names is in the state it names it in. -/
theorem state_of_namesRecord {s : State} {st : ExtentState} {h : Handle} (hn : namesRecord s st h = true) {r : Extent}
    (hr : tabGet s.extents h.slot = some r) : r.state = st := by
  rw [namesRecord, hr] at hn
  exact beq_iff_eq.1 ((Bool.and_eq_true ..).mp hn).1

/-- A running or DONE stream of unknown L is OPEN (section 1.2). -/
theorem opened_of_unknown_length {s : State} {i : Nat} {c : Context} (hs : StateTrue s i c)
    (hst : ¬ (c.state = .failed ∨ c.state = .withdrawing)) (hlength : c.length = none) : c.state = .opened := by
  unfold StateTrue at hs
  cases hstate : c.state with
  | opened => rfl
  | ending => simp [hstate, hlength] at hs
  | done => simp [hstate, hlength] at hs
  | failed => exact absurd (.inl hstate) hst
  | withdrawing => exact absurd (.inr hstate) hst

/-! ## The segment port -/

/-- R74 holds of the state that an outcome names. -/
def OutcomeTrue (o : Host.Outcome State Fault Refusal) : Prop := ∀ t, o = .next t → RecordsTrue t

theorem outcomeTrue_next {t : State} (ht : RecordsTrue t) : OutcomeTrue (.next t) := by
  rintro _ ⟨⟩
  exact ht

theorem outcomeTrue_fault (f : Fault) : OutcomeTrue (.fault f) := fun t h => by simp at h

theorem recordsTrue_answerMapped {s : State} (hs : RecordsTrue s) (i : Nat) (tag : Word) (code : DispCode) (n : Nat) :
    RecordsTrue (answerMapped s i tag code n) := recordsUnder_congr hs rfl rfl rfl

theorem recordsTrue_countLink {s : State} (hs : RecordsTrue s) (link : Fin 4) (f : LinkCounters → LinkCounters) :
    RecordsTrue (countLink s link f) := recordsUnder_congr hs rfl rfl rfl

theorem recordsTrue_refuseArrival {s : State} (hs : RecordsTrue s) (i : Nat) (link : Fin 4) (tag : Word)
    (code : DispCode) : RecordsTrue (refuseArrival s i link tag code) :=
  recordsTrue_answerMapped
    (recordsUnder_modCtx (recordsTrue_countLink hs link LinkCounters.refusal) i (f := refuseContext code) fun _ => rfl)
    _ _ _ _

theorem recordsTrue_refuseUnknownStream {s : State} (hs : RecordsTrue s) (link : Fin 4) (tag : Word) :
    RecordsTrue (refuseUnknownStream s link tag) := recordsUnder_congr hs rfl rfl rfl

theorem recordsTrue_admitAnswer {s : State} (hs : RecordsTrue s) (i : Nat) (tag : Word) (code : DispCode) :
    RecordsTrue (admitAnswer s i tag code) := recordsTrue_answerMapped hs _ _ _ _

theorem outcomeTrue_handleSegment {s : State} (hs : FillReady s) (a : SegmentArrival) :
    OutcomeTrue (handleSegment s a) := by
  have hs' := fillReady_countLink hs a.link LinkCounters.arrival
  unfold handleSegment
  generalize countLink s a.link LinkCounters.arrival = u at hs'
  dsimp only
  split
  · exact outcomeTrue_next (recordsTrue_refuseUnknownStream hs'.records _ _)
  next i c htag =>
  obtain ⟨hc, -⟩ := lookupTag_some hs'.contexts htag
  split
  · exact outcomeTrue_next (recordsTrue_refuseArrival hs'.records _ _ _ _)
  next hst =>
  split
  · exact outcomeTrue_next (recordsTrue_refuseArrival hs'.records _ _ _ _)
  next ts hok =>
  split
  · have heffects := recordsTrue_segmentEffects hs'.records hs'.extents hs'.freeNodup hs'.freeUnbound hc
      (opened_of_unknown_length (hs'.states (i, c) (mem_of_tabGet hc)) hst) hok
    have hcounted : RecordsTrue (segmentCount (segmentEffects u i c a ts) i a.link (newBytesOf ts) a.payload.length) :=
      recordsUnder_modCtx (recordsTrue_countLink heffects _ _) i fun _ => rfl
    exact outcomeTrue_next (recordsTrue_answerMapped hcounted _ _ _ _)
  · exact outcomeTrue_fault _

theorem recordsTrue_handleCheck {s : State} (hs : RecordsTrue s) (a : CheckArrival) : RecordsTrue (handleCheck s a) := by
  have hs' := recordsTrue_countLink hs a.link LinkCounters.arrival
  have hrefuse (i : Nat) (code : DispCode) := recordsTrue_refuseArrival hs' i a.link a.tag code
  have hadmit (i : Nat) (code : DispCode) := recordsTrue_admitAnswer hs' i a.tag code
  unfold handleCheck
  dsimp only
  split
  · exact recordsTrue_refuseUnknownStream hs' _ _
  next i c htag =>
  split
  · exact hrefuse _ _
  split
  · exact hadmit _ _
  split
  · exact hrefuse _ _
  split
  · exact hrefuse _ _
  · exact hrefuse _ _
  · exact hadmit _ _
  · exact hadmit _ _
  · exact hrefuse _ _
  · exact hrefuse _ _
  · exact recordsTrue_admitAnswer (recordsTrue_restartTimer (recordsTrue_storeCheck hs' _ _) i) _ _ _
  · exact recordsTrue_admitAnswer (recordsTrue_restartTimer (recordsUnder_createExtent hs' _ _ _) i) _ _ _

theorem recordsTrue_handleTrailer {s : State} (hs : FillReady s) (a : TrailerArrival) :
    RecordsTrue (handleTrailer s a) := by
  have hs' := fillReady_countLink hs a.link LinkCounters.arrival
  unfold handleTrailer
  generalize countLink s a.link LinkCounters.arrival = u at hs'
  dsimp only
  split
  · exact recordsTrue_refuseUnknownStream hs'.records _ _
  next i c htag =>
  obtain ⟨hc, -⟩ := lookupTag_some hs'.contexts htag
  split
  · exact recordsTrue_refuseArrival hs'.records _ _ _ _
  next hst =>
  split
  · exact recordsTrue_admitAnswer hs'.records _ _ _
  · exact recordsTrue_admitAnswer hs'.records _ _ _
  · exact recordsTrue_refuseArrival hs'.records _ _ _ _
  next hcode =>
  exact recordsTrue_admitAnswer (recordsTrue_trailerEffects hs'.records hc hcode
    (opened_of_unknown_length (hs'.states (i, c) (mem_of_tabGet hc)) hst)) _ _ _

theorem outcomeTrue_execSegment {s : State} (hs : FillReady s) : OutcomeTrue (execSegment s) := by
  unfold execSegment
  split
  · exact outcomeTrue_handleSegment (fillReady_inputQueue hs _) _
  · exact outcomeTrue_next hs.records

theorem outcomeTrue_execCheck {s : State} (hs : FillReady s) : OutcomeTrue (execCheck s) := by
  unfold execCheck
  split
  · exact outcomeTrue_next (recordsTrue_handleCheck (fillReady_inputQueue hs _).records _)
  · exact outcomeTrue_next hs.records

theorem outcomeTrue_execTrailer {s : State} (hs : FillReady s) : OutcomeTrue (execTrailer s) := by
  unfold execTrailer
  split
  · exact outcomeTrue_next (recordsTrue_handleTrailer (fillReady_inputQueue hs _) _)
  · exact outcomeTrue_next hs.records

theorem outcomeTrue_execUnknownKind {s : State} (hs : FillReady s) : OutcomeTrue (execUnknownKind s) := by
  unfold execUnknownKind
  split
  · exact outcomeTrue_next (recordsUnder_congr hs.records rfl rfl rfl)
  · exact outcomeTrue_next hs.records

theorem outcomeTrue_execArrivalDelivery {s : State} (hs : FillReady s) (a : Arrival) :
    OutcomeTrue (execArrivalDelivery a s) := by
  unfold execArrivalDelivery
  split
  · exact outcomeTrue_next hs.records
  · exact outcomeTrue_next (recordsUnder_congr hs.records rfl rfl rfl)

theorem outcomeTrue_execDispositionAccept {s : State} (hs : FillReady s) : OutcomeTrue (execDispositionAccept s) := by
  unfold execDispositionAccept
  split
  · exact outcomeTrue_next hs.records
  · exact outcomeTrue_next (recordsUnder_congr hs.records rfl rfl rfl)

/-! ## The drain port (R143, R148 to R151, R162) -/

theorem outcomeTrue_takeRequest {s : State} (hs : FillReady s) {body : State → State × DrainAnswer}
    (hbody : RecordsTrue (body s).1) : OutcomeTrue (takeRequest s body) := by
  rcases takeRequest_cases s body with ⟨-, h⟩ | ⟨-, h⟩
  · rw [h]
    exact outcomeTrue_next hs.records
  · rw [h]
    exact outcomeTrue_next (recordsUnder_congr hbody rfl rfl rfl)

/-- R74, and no handle of a ready queue naming a FILLING record: what a hand-out leans on and keeps. -/
structure HandOutReady (s : State) : Prop where
  records : RecordsTrue s
  queued : ∀ q : Fin 4, ∀ h ∈ s.ready[q], ∀ r, tabGet s.extents h.slot = some r → r.state ≠ .filling

theorem FillReady.handOutReady {s : State} (hs : FillReady s) : HandOutReady s where
  records := hs.records
  queued q h hh r hr := by
    rw [state_of_namesRecord (hs.queued q h hh) hr]
    decide

/-- A hand-out claims a record that is complete. -/
theorem handOutReady_handOut {s : State} (hs : HandOutReady s) {q : Fin 4} {h : Handle} {rest : List Handle}
    (hq : s.ready[q] = h :: rest) : HandOutReady (handOut s q h rest) where
  records := by
    refine recordsUnder_of_records hs.records rfl (fun i d hd => ⟨d, hd, rfl⟩) fun x hx => ?_
    change x ∈ claimExtent s h.slot at hx
    unfold claimExtent at hx
    split at hx
    · exact .inl hx
    · next r hr =>
      rcases mem_tabSet hx with rfl | hold
      · have hne := hs.queued q h (by rw [hq]; exact List.mem_cons_self) r hr
        refine .inr fun d hd => ?_
        have hrec := recordTrue_of_tabGet hs.records hr hd
        exact hrec.of_full (hrec.full hne) rfl rfl
      · exact .inl hold
  queued p g hg r hr := by
    have hold : g ∈ s.ready[p] := by
      change g ∈ (s.ready.set q rest)[p] at hg
      rw [Fin.getElem_fin, Vector.getElem_set] at hg
      split at hg
      · next hqp =>
        obtain rfl : q = p := Fin.ext hqp
        rw [hq]
        exact List.mem_cons_of_mem _ hg
      · exact hg
    change tabGet (claimExtent s h.slot) g.slot = some r at hr
    rw [tabGet_claimExtent] at hr
    split at hr
    · obtain ⟨b, -, rfl⟩ := Option.map_eq_some_iff.1 hr
      exact (by decide : ExtentState.claimed ≠ .filling)
    · exact hs.queued p g hold r hr

theorem handOutReady_handOutN (n : Nat) {s : State} (hs : HandOutReady s) (q : Fin 4) :
    HandOutReady (handOutN n s q).1 := by
  induction n generalizing s with
  | zero => exact hs
  | succ n ih =>
    unfold handOutN
    split
    · exact hs
    · next h rest hq => exact ih (handOutReady_handOut hs hq)

theorem handOutReady_walkPosition {s : State} (hs : HandOutReady s) (remaining : Nat) :
    HandOutReady (walkPosition s remaining).1 :=
  have hwalked := handOutReady_handOutN (visitCount s remaining) hs s.cursor.queue
  ⟨recordsUnder_congr hwalked.records rfl rfl rfl, hwalked.queued⟩

theorem handOutReady_chainWalk (fuel : Nat) {s : State} (hs : HandOutReady s) (remaining idle : Nat) :
    HandOutReady (chainWalk fuel s remaining idle).1 := by
  induction fuel generalizing s remaining idle with
  | zero => exact hs
  | succ fuel ih =>
    unfold chainWalk
    dsimp only
    generalize (if visitCount s remaining = 0 then idle + 1 else 0) = idle'
    split
    · exact hs
    · split
      · exact handOutReady_walkPosition hs remaining
      · exact ih (handOutReady_walkPosition hs remaining) _ _

/-- A handle judged current is in the claim table and names a record of a stream that is not FREE (R146). -/
theorem judgeHandle_eq_ok {s : State} {h : Handle} {r : Extent} {c : Context} (hj : judgeHandle s h = .ok (r, c)) :
    h ∈ s.claims ∧ tabGet s.extents h.slot = some r ∧ ctxOf s r.stream = some c := by
  unfold judgeHandle at hj
  split at hj
  · cases hj
  split at hj
  · next hclaim =>
    split at hj
    · cases hj
    next r' hr =>
    split at hj
    · cases hj
    next c' hc =>
    cases hj
    exact ⟨hclaim.2, hr, hc⟩
  · cases hj

theorem countRelease_frame (s : State) (i : Nat) (outcome : StoreOutcome) :
    (countRelease s i outcome).extents = s.extents ∧ (RecordsTrue s → RecordsTrue (countRelease s i outcome)) := by
  cases outcome with
  | stored => exact ⟨rfl, id⟩
  | failedStore => exact ⟨modCtx_extents .., fun hs => recordsUnder_modCtx hs i fun _ => rfl⟩

theorem recordsTrue_releaseWithdrawn {s : State} (hs : RecordsTrue s) (slot i : Nat) :
    RecordsTrue (releaseWithdrawn s slot i) := by
  unfold releaseWithdrawn
  dsimp only
  split
  · exact recordsUnder_modCtx (recordsTrue_freeExtent hs slot) i fun _ => rfl
  · exact recordsTrue_freeExtent hs slot

/-- A requeued record was CLAIMED and so complete (R150). -/
theorem recordsTrue_requeueExtent {s : State} (hs : RecordsTrue s) {h : Handle} {r : Extent}
    (hr : tabGet s.extents h.slot = some r) (hst : r.state = .claimed) (q : Fin 4) :
    RecordsTrue (requeueExtent s h r q) := by
  have hset := recordsUnder_setExtent hs h.slot
    (r := { r with state := .ready, storeAttempts := r.storeAttempts + 1 }) fun d hd => by
      have hrec := recordTrue_of_tabGet hs hr hd
      exact hrec.of_full (hrec.full (by rw [hst]; decide)) rfl rfl
  exact recordsUnder_congr hset rfl rfl rfl

theorem recordsTrue_releaseClaim {s : State} (hs : RecordsTrue s) {h : Handle} {r : Extent}
    (hr : tabGet s.extents h.slot = some r) (hst : r.state = .claimed) (c : Context) (outcome : StoreOutcome) :
    RecordsTrue (releaseClaim s h r c outcome).1 := by
  obtain ⟨hext, hkeeps⟩ := countRelease_frame s r.stream outcome
  have hcounted := hkeeps hs
  rw [← hext] at hr
  unfold releaseClaim
  dsimp only
  split
  · exact recordsTrue_releaseWithdrawn hcounted _ _
  cases outcome with
  | stored => exact recordsTrue_freeExtent hcounted _
  | failedStore =>
    dsimp only
    split
    · exact recordsTrue_requeueExtent hcounted hr hst _
    · exact recordsTrue_failStream (recordsTrue_freeExtent hcounted _) _ _

theorem recordsTrue_releaseHandle {s : State} (hs : FillReady s) (h : Handle) (outcome : StoreOutcome) :
    RecordsTrue (releaseHandle h outcome s).1 := by
  unfold releaseHandle
  split
  · exact hs.records
  · next r c hj =>
    obtain ⟨hclaim, hr, -⟩ := judgeHandle_eq_ok hj
    exact recordsTrue_releaseClaim hs.records hr (state_of_namesRecord (hs.claimed h hclaim) hr) c outcome

theorem readData_state (h : Handle) (offset length : Nat) (s : State) : (readData h offset length s).1 = s := by
  unfold readData
  split
  · rfl
  · dsimp only
    split <;> rfl

theorem outcomeTrue_execReadReady {s : State} (hs : FillReady s) (q : Fin 4) (count : BitVec 8) :
    OutcomeTrue (execReadReady q count s) :=
  outcomeTrue_takeRequest hs (handOutReady_handOutN _ hs.handOutReady q).records

theorem outcomeTrue_execChainRead {s : State} (hs : FillReady s) (count : BitVec 8) :
    OutcomeTrue (execChainRead count s) :=
  outcomeTrue_takeRequest hs (handOutReady_chainWalk chainFuel hs.handOutReady _ 0).records

theorem outcomeTrue_execReadData {s : State} (hs : FillReady s) (h : Handle) (offset : Word) (length : BitVec 17) :
    OutcomeTrue (execReadData h offset length s) :=
  outcomeTrue_takeRequest hs (by rw [readData_state]; exact hs.records)

theorem outcomeTrue_execDrainAnswerAccept {s : State} (hs : FillReady s) : OutcomeTrue (execDrainAnswerAccept s) := by
  unfold execDrainAnswerAccept
  split
  · exact outcomeTrue_next hs.records
  · exact outcomeTrue_next (recordsUnder_congr hs.records rfl rfl rfl)

/-! ## The control port: commands that touch no record and no L -/

/-- The taking of a command whose rule keeps R74. -/
theorem outcomeTrue_takeCommand {s : State} (hs : FillReady s) (k : CommandKind) {body : List Word → State → Reply}
    (hbody : ∀ args u, FillReady u → RecordsTrue (body args u).state) : OutcomeTrue (takeCommand k body s) := by
  rcases takeCommand_cases k body s with h | ⟨c, rest, -, -, -, h⟩
  · rw [h]
    exact outcomeTrue_next hs.records
  · have hu := fillReady_commands hs rest
    have hreply : RecordsTrue (runCommand k c.args { s with commands := rest } body).state := by
      unfold runCommand
      split
      · exact hu.records
      · exact hbody c.args _ hu
    rw [h]
    exact outcomeTrue_next (recordsUnder_congr hreply rfl rfl rfl)

theorem recordsTrue_ackAttention {s : State} (hs : RecordsTrue s) (args : List Word) :
    RecordsTrue (ackAttention args s).state := by
  unfold ackAttention
  split
  · exact hs
  · exact recordsUnder_congr hs rfl rfl rfl

theorem recordsTrue_endAttention {s : State} (hs : RecordsTrue s) (args : List Word) :
    RecordsTrue (endAttention args s).state := by
  unfold endAttention
  split
  · exact hs
  · dsimp only
    split
    · exact recordsUnder_congr hs rfl rfl rfl
    · exact hs

theorem recordsTrue_setClass {s : State} (hs : RecordsTrue s) (args : List Word) :
    RecordsTrue (setClass args s).state := by
  unfold setClass
  split
  · exact hs
  · dsimp only
    split
    · exact hs
    · exact recordsUnder_congr hs rfl rfl rfl

theorem recordsTrue_setQueue {s : State} (hs : RecordsTrue s) (args : List Word) :
    RecordsTrue (setQueue args s).state := by
  unfold setQueue
  split
  · exact hs
  · exact recordsUnder_congr hs rfl rfl rfl

theorem recordsTrue_releaseHold {s : State} (hs : RecordsTrue s) (args : List Word) :
    RecordsTrue (releaseHold args s).state := by
  unfold releaseHold
  split
  · exact hs
  · exact recordsUnder_congr hs rfl rfl rfl

theorem recordsTrue_snapshotCommand {s : State} (hs : RecordsTrue s) (args : List Word) :
    RecordsTrue (snapshotCommand args s).state := by
  unfold snapshotCommand
  split
  · exact hs
  · exact recordsUnder_congr hs rfl rfl rfl

theorem recordsTrue_readSnapshot {s : State} (hs : RecordsTrue s) (args : List Word) :
    RecordsTrue (readSnapshot args s).state := by
  unfold readSnapshot
  split
  · exact hs
  · exact recordsUnder_congr hs rfl rfl rfl

theorem recordsTrue_queryStream {s : State} (hs : RecordsTrue s) (args : List Word) :
    RecordsTrue (queryStream args s).state := by
  unfold queryStream
  split <;> exact hs

theorem recordsTrue_fetchNotices {s : State} (hs : RecordsTrue s) (args : List Word) :
    RecordsTrue (fetchNotices args s).state := by
  unfold fetchNotices
  dsimp only
  split
  · exact hs
  · exact List.foldlRecOn (motive := fun u => RecordsTrue u) _ _ hs fun _ hu i _ =>
      recordsUnder_modCtx hu i fun _ => rfl

theorem recordsTrue_readStreamCounters {s : State} (hs : FillReady s) (args : List Word) :
    RecordsTrue (readStreamCounters args s).state := by
  unfold readStreamCounters
  split
  · exact hs.records
  · next i c htag =>
    obtain ⟨hc, -⟩ := lookupTag_some hs.contexts htag
    dsimp only [accept]
    split
    · exact recordsUnder_setCtx hs.records hc rfl
    · exact hs.records

theorem recordsTrue_setStreamTimers {s : State} (hs : FillReady s) (args : List Word) :
    RecordsTrue (setStreamTimers args s).state := by
  unfold setStreamTimers
  split
  · exact hs.records
  · next i c htag =>
    obtain ⟨hc, -⟩ := lookupTag_some hs.contexts htag
    split
    · exact recordsUnder_setCtx hs.records hc rfl
    · exact hs.records

theorem recordsTrue_setGroupTimers {s : State} (hs : RecordsTrue s) (args : List Word) :
    RecordsTrue (setGroupTimers args s).state := by
  unfold setGroupTimers
  dsimp only
  split
  · exact hs
  · exact List.foldlRecOn (motive := fun u => RecordsTrue u) _ _ hs fun _ hu i _ =>
      recordsUnder_modCtx hu i fun _ => rfl

/-! ## The control port: streams, expected values, the pool and the engine -/

/-- A context that becomes taken has no record yet (R65), so R74 stays true whatever its L. -/
theorem recordsTrue_setCtx_of_free {s : State} (hs : FillReady s) {i : Nat} (hfree : ctxOf s i = none) (d : Context) :
    RecordsTrue (setCtx s i d) := by
  intro x hx c hc
  have hne : x.2.stream ≠ i := fun hi => by simpa [hi, hfree] using hs.owned x hx
  rw [ctxOf_setCtx_other _ _ hne] at hc
  exact hs.records x hx c hc

theorem recordsTrue_openStream {s : State} (hs : FillReady s) (args : List Word) :
    RecordsTrue (openStream args s).state := by
  unfold openStream
  dsimp only
  split
  · exact hs.records
  split
  · exact hs.records
  split
  · exact hs.records
  next i hfree =>
  obtain ⟨-, -, hnone, -⟩ := tabLowestFree_spec hfree
  exact recordsTrue_evalDone (recordsTrue_setCtx_of_free hs hnone _) i

theorem recordsTrue_closeStream {s : State} (hs : RecordsTrue s) (args : List Word) :
    RecordsTrue (closeStream args s).state := by
  unfold closeStream
  split
  · exact hs
  · next i c htag =>
    split
    · refine recordsUnder_of_records hs rfl (fun j d hd => ⟨d, ?_, rfl⟩) fun x hx => .inl hx
      change tabGet (tabErase s.contexts i) j = some d at hd
      rw [tabGet_tabErase] at hd
      split at hd
      · cases hd
      · exact hd
    · exact hs

theorem recordsTrue_abortStream {s : State} (hs : RecordsTrue s) (args : List Word) :
    RecordsTrue (abortStream args s).state := by
  unfold abortStream
  split
  · exact hs
  · split
    · exact hs
    · exact recordsTrue_abortStreamAt hs _

theorem recordsTrue_abortGroup {s : State} (hs : RecordsTrue s) (args : List Word) :
    RecordsTrue (abortGroup args s).state := by
  unfold abortGroup
  dsimp only
  split
  · exact hs
  · exact List.foldlRecOn (motive := fun u => RecordsTrue u) _ _ hs fun _ hu i _ => recordsTrue_abortStreamAt hu i

theorem recordsTrue_supplyCheck {s : State} (hs : RecordsTrue s) (args : List Word) :
    RecordsTrue (supplyCheck args s).state := by
  unfold supplyCheck
  split
  · exact hs
  split
  · exact hs
  split
  · exact hs
  split
  · exact hs
  dsimp only
  split
  · exact hs
  · exact hs
  · exact hs
  · exact hs
  · exact hs
  · exact hs
  · exact recordsTrue_restartTimer (recordsTrue_storeCheck hs _ _) _
  · exact recordsTrue_restartTimer (recordsUnder_createExtent hs _ _ _) _

theorem recordsTrue_supplyObjectCheck {s : State} (hs : RecordsTrue s) (args : List Word) :
    RecordsTrue (supplyObjectCheck args s).state := by
  unfold supplyObjectCheck
  split
  · exact hs
  split
  · exact hs
  split
  · exact hs
  dsimp only
  split
  · split <;> exact hs
  · split
    · exact hs
    · exact recordsTrue_restartTimer (recordsTrue_storeObjectCheck hs _ _) _

/-- The pool changes its extent size only while no stream has a context, and so no record (R53). -/
theorem recordsTrue_configurePool {s : State} (hs : RecordsTrue s) (args : List Word) :
    RecordsTrue (configurePool args s).state := by
  unfold configurePool
  split
  · next hidle =>
    intro x hx c hc
    have hnone : ctxOf s x.2.stream = none := by rw [ctxOf, List.isEmpty_iff.1 hidle.1, tabGet]
    cases hnone.symm.trans hc
  · exact hs

theorem recordsTrue_of_no_record {s : State} (h : s.extents = []) : RecordsTrue s := by
  intro x hx
  rw [h] at hx
  cases hx

/-! ## The host's reads and the timers -/

theorem outcomeTrue_execCommandWrite {s : State} (hs : FillReady s) (c : CommandRecord) :
    OutcomeTrue (execCommandWrite c s) := by
  unfold execCommandWrite
  split
  · exact outcomeTrue_next (recordsUnder_congr hs.records rfl rfl rfl)
  · exact outcomeTrue_next (recordsUnder_congr hs.records rfl rfl rfl)

theorem outcomeTrue_execResponseRead {s : State} (hs : FillReady s) : OutcomeTrue (execResponseRead s) := by
  unfold execResponseRead
  split
  · exact outcomeTrue_next (recordsUnder_congr hs.records rfl rfl rfl)
  · exact outcomeTrue_next (recordsUnder_congr hs.records rfl rfl rfl)

theorem outcomeTrue_execUnknownCommand {s : State} (hs : FillReady s) : OutcomeTrue (execUnknownCommand s) := by
  unfold execUnknownCommand
  split
  · exact outcomeTrue_next hs.records
  · split
    · exact outcomeTrue_next (recordsUnder_congr hs.records rfl rfl rfl)
    · exact outcomeTrue_next hs.records

theorem outcomeTrue_execSnapshotCompletion {s : State} (hs : FillReady s) : OutcomeTrue (execSnapshotCompletion s) := by
  unfold execSnapshotCompletion
  split
  · exact outcomeTrue_next hs.records
  · exact outcomeTrue_next (recordsUnder_congr hs.records rfl rfl rfl)

theorem recordsTrue_gapExpire {s : State} (hs : RecordsTrue s) {i : Nat} {c : Context} (hc : ctxOf s i = some c) :
    RecordsTrue (gapExpire s i c) := recordsUnder_setCtx hs hc rfl

theorem recordsTrue_abandonExpire {s : State} (hs : RecordsTrue s) {i : Nat} {c : Context} (hc : ctxOf s i = some c) :
    RecordsTrue (abandonExpire s i c) :=
  recordsTrue_failStream (recordsUnder_setCtx hs hc (d := { c with count := c.count + 1 }) rfl) i .stall

theorem recordsTrue_advanceTimer {s : State} (hs : RecordsTrue s) (i : Nat) : RecordsTrue (advanceTimer s i) := by
  unfold advanceTimer
  split
  · exact hs
  next c hc =>
  split
  · exact recordsTrue_gapExpire hs hc
  split
  · exact recordsTrue_abandonExpire hs hc
  split
  · exact recordsUnder_setCtx hs hc rfl
  · exact hs

theorem outcomeTrue_execGapExpiry {s : State} (hs : FillReady s) (ctx : Fin 1024) :
    OutcomeTrue (execGapExpiry ctx s) := by
  unfold execGapExpiry
  split
  · exact outcomeTrue_next hs.records
  next c hc =>
  split
  · exact outcomeTrue_next (recordsTrue_gapExpire hs.records hc)
  · exact outcomeTrue_next hs.records

theorem outcomeTrue_execAbandonExpiry {s : State} (hs : FillReady s) (ctx : Fin 1024) :
    OutcomeTrue (execAbandonExpiry ctx s) := by
  unfold execAbandonExpiry
  split
  · exact outcomeTrue_next hs.records
  next c hc =>
  split
  · exact outcomeTrue_next (recordsTrue_abandonExpire hs.records hc)
  · exact outcomeTrue_next hs.records

/-! ## Every command and every step -/

/-- Every command keeps R74 where the invariants it leans on hold. -/
theorem outcomeTrue_exec (i : Instr) {s : State} (hs : FillReady s) : OutcomeTrue (exec i s) := by
  have hcommand := outcomeTrue_takeCommand hs
  cases i with
  | powerOn => exact outcomeTrue_next (recordsTrue_of_no_record rfl)
  | arrivalDelivery a => exact outcomeTrue_execArrivalDelivery hs a
  | segment => exact outcomeTrue_execSegment hs
  | check => exact outcomeTrue_execCheck hs
  | trailer => exact outcomeTrue_execTrailer hs
  | unknownKind => exact outcomeTrue_execUnknownKind hs
  | dispositionAccept => exact outcomeTrue_execDispositionAccept hs
  | commandWrite c => exact outcomeTrue_execCommandWrite hs c
  | responseRead => exact outcomeTrue_execResponseRead hs
  | portStatusRead => exact outcomeTrue_next (recordsUnder_congr hs.records rfl rfl rfl)
  | openStream => exact hcommand _ fun args _ hu => recordsTrue_openStream hu args
  | closeStream => exact hcommand _ fun args _ hu => recordsTrue_closeStream hu.records args
  | abortStream => exact hcommand _ fun args _ hu => recordsTrue_abortStream hu.records args
  | abortGroup => exact hcommand _ fun args _ hu => recordsTrue_abortGroup hu.records args
  | queryStream => exact hcommand _ fun args _ hu => recordsTrue_queryStream hu.records args
  | configurePool => exact hcommand _ fun args _ hu => recordsTrue_configurePool hu.records args
  | supplyCheck => exact hcommand _ fun args _ hu => recordsTrue_supplyCheck hu.records args
  | supplyObjectCheck => exact hcommand _ fun args _ hu => recordsTrue_supplyObjectCheck hu.records args
  | setStreamTimers => exact hcommand _ fun args _ hu => recordsTrue_setStreamTimers hu args
  | setGroupTimers => exact hcommand _ fun args _ hu => recordsTrue_setGroupTimers hu.records args
  | setTimerDefaults => exact hcommand _ fun _ _ hu => recordsUnder_congr hu.records rfl rfl rfl
  | setQueue => exact hcommand _ fun args _ hu => recordsTrue_setQueue hu.records args
  | releaseHold => exact hcommand _ fun args _ hu => recordsTrue_releaseHold hu.records args
  | drainStatus => exact hcommand _ fun _ _ hu => hu.records
  | setStoreLimit => exact hcommand _ fun _ _ hu => recordsUnder_congr hu.records rfl rfl rfl
  | ackAttention => exact hcommand _ fun args _ hu => recordsTrue_ackAttention hu.records args
  | endAttention => exact hcommand _ fun args _ hu => recordsTrue_endAttention hu.records args
  | setClass => exact hcommand _ fun args _ hu => recordsTrue_setClass hu.records args
  | setThreshold => exact hcommand _ fun _ _ hu => recordsUnder_congr hu.records rfl rfl rfl
  | fetchNotices => exact hcommand _ fun args _ hu => recordsTrue_fetchNotices hu.records args
  | readStreamCounters => exact hcommand _ fun args _ hu => recordsTrue_readStreamCounters hu args
  | snapshot => exact hcommand _ fun args _ hu => recordsTrue_snapshotCommand hu.records args
  | readSnapshot => exact hcommand _ fun args _ hu => recordsTrue_readSnapshot hu.records args
  | queryEngine => exact hcommand _ fun _ _ hu => hu.records
  | resetEngine => exact hcommand _ fun _ _ _ => recordsTrue_of_no_record rfl
  | unknownCommand => exact outcomeTrue_execUnknownCommand hs
  | readReady q count => exact outcomeTrue_execReadReady hs q count
  | chainRead count => exact outcomeTrue_execChainRead hs count
  | readData h offset length => exact outcomeTrue_execReadData hs h offset length
  | release h outcome => exact outcomeTrue_takeRequest hs (recordsTrue_releaseHandle hs h outcome)
  | drainStatusRequest => exact outcomeTrue_takeRequest hs (body := fun s => (s, .summary (drainSummary s))) hs.records
  | unknownRequest kind => exact outcomeTrue_takeRequest hs (body := fun s => (s, .status .unknownRequest)) hs.records
  | drainAnswerAccept => exact outcomeTrue_execDrainAnswerAccept hs
  | timerAdvance ctx => exact outcomeTrue_next (recordsTrue_advanceTimer hs.records ctx.val)
  | gapExpiry ctx => exact outcomeTrue_execGapExpiry hs ctx
  | abandonExpiry ctx => exact outcomeTrue_execAbandonExpiry hs ctx
  | snapshotCompletion => exact outcomeTrue_execSnapshotCompletion hs

theorem outcomeTrue_step {s : State} (hs : FillReady s) : OutcomeTrue (step s) := by
  unfold step
  split
  · exact outcomeTrue_next hs.records
  · exact outcomeTrue_exec _ (fillReady_pending hs _)

/-- Settles O57: the insertion of a piece keeps one record as R74 says (`RecordTrue.insert`), the learning of L keeps all of
a stream (`RecordTrue.learn`), and the commands are built of these and of steps that touch no range of a held record. -/
theorem fillRangesStayOrdered : Obligations.FillRangesStayOrdered := by
  intro s t hpool hqueues hclaims hstreams hranges hstep
  rw [rangesTrue_iff]
  exact outcomeTrue_step (fillReady_of_invariants hpool hqueues hclaims hstreams hranges) t hstep

end Sys2Proof.Machine
end

section
/-! PROOFS. Positional check values byte by byte (spec/04, sections 4.1 and 4.2): the PCV of a byte string is a sum over its
bytes, so a run of bytes accumulated at its word offset takes the place of the zeros that stood there. -/
namespace Sys2Proof.Machine

/-! ## The sum over the bytes of a string (R82 to R84) -/

/-- The sum of bytes that stand from position `p` on, a byte at position `x` weighing 256 to its place in its word, times
the weight `g` of word `x / 4`. -/
def byteSum (g : Nat → Nat) : Nat → List Byte → Nat
  | _, [] => 0
  | p, b :: bs => g (p / 4) * 256 ^ (p % 4) * b.toNat + byteSum g (p + 1) bs

/-- The sum of the reduced words that stand from word `j` on, with the word weights `g`. -/
def wordSum (g : Nat → Nat) : Nat → List Nat → Nat
  | _, [] => 0
  | j, w :: ws => g j * reduceWord w + wordSum g (j + 1) ws

/-- The word weights of S (R84). -/
def plainWeight (_ : Nat) : Nat := 1

/-- The word weights of T (R84). -/
def placeWeight (j : Nat) : Nat := j + 1

theorem plainSum_eq_wordSum (j : Nat) (ws : List Nat) : plainSum ws = wordSum plainWeight j ws := by
  induction ws generalizing j with
  | nil => rfl
  | cons w ws ih => rw [plainSum, wordSum, plainWeight, one_mul, ih]

theorem weightedSum_eq_wordSum (j : Nat) (ws : List Nat) : weightedSum j ws = wordSum placeWeight j ws := by
  induction ws generalizing j with
  | nil => rfl
  | cons w ws ih => rw [weightedSum, wordSum, placeWeight, ih]

theorem byteSum_append (g : Nat → Nat) (p : Nat) (l m : List Byte) :
    byteSum g p (l ++ m) = byteSum g p l + byteSum g (p + l.length) m := by
  induction l generalizing p with
  | nil => simp [byteSum]
  | cons b l ih =>
    rw [List.cons_append, byteSum, byteSum, ih, List.length_cons, Nat.add_assoc p 1, Nat.add_comm 1, Nat.add_assoc]

theorem byteSum_zeros (g : Nat → Nat) (p n : Nat) : byteSum g p (List.replicate n 0) = 0 := by
  induction n generalizing p with
  | zero => rfl
  | succ n ih => rw [List.replicate_succ, byteSum, ih]; rfl

/-- Zeros behind a string do not count (R82). -/
theorem byteSum_append_zeros (g : Nat → Nat) (p n : Nat) (l : List Byte) :
    byteSum g p (l ++ List.replicate n 0) = byteSum g p l := by
  rw [byteSum_append, byteSum_zeros, Nat.add_zero]

/-- The bytes of one word weigh what the word does, whatever follows it. -/
theorem byteSum_word (g : Nat → Nat) (j : Nat) (b0 b1 b2 b3 : Byte) (bs : List Byte) :
    byteSum g (4 * j) (b0 :: b1 :: b2 :: b3 :: bs) = g j * wordOf b0 b1 b2 b3 + byteSum g (4 * (j + 1)) bs := by
  have hword : (4 * j + 1) / 4 = j ∧ (4 * j + 2) / 4 = j ∧ (4 * j + 3) / 4 = j ∧ 4 * j / 4 = j := by omega
  have hplace : (4 * j + 1) % 4 = 1 ∧ (4 * j + 2) % 4 = 2 ∧ (4 * j + 3) % 4 = 3 ∧ 4 * j % 4 = 0 := by omega
  simp only [byteSum, Nat.add_assoc, Nat.reduceAdd, hword, hplace, wordOf, Nat.mul_succ 4 j]
  ring

/-- The last word of a string weighs what its bytes do: the positions beyond the end count 0 (R82). -/
theorem byteSum_last_word (g : Nat → Nat) (j n : Nat) {l : List Byte} {b0 b1 b2 b3 : Byte}
    (h : l ++ List.replicate n 0 = [b0, b1, b2, b3]) : byteSum g (4 * j) l = g j * wordOf b0 b1 b2 b3 := by
  rw [← byteSum_append_zeros g _ n, h, byteSum_word, byteSum, Nat.add_zero]

/-- Modulo M the words of a string count what its bytes do (R82, R83). -/
theorem wordSum_modEq (g : Nat → Nat) (j : Nat) (bs : List Byte) :
    wordSum g j (wordsOf bs) ≡ byteSum g (4 * j) bs [MOD Config.modulus] := by
  have hword (k w : Nat) : g k * reduceWord w ≡ g k * w [MOD Config.modulus] := (Nat.mod_modEq ..).mul_left _
  induction bs using wordsOf.induct generalizing j with
  | case1 => rfl
  | case2 b0 =>
    rw [byteSum_last_word g j 3 rfl]
    exact hword j _
  | case3 b0 b1 =>
    rw [byteSum_last_word g j 2 rfl]
    exact hword j _
  | case4 b0 b1 b2 =>
    rw [byteSum_last_word g j 1 rfl]
    exact hword j _
  | case5 b0 b1 b2 b3 bs ih =>
    rw [byteSum_word]
    exact (hword j _).add (ih (j + 1))

/-- The PCV of a string as two sums over its bytes (R84). -/
theorem pcvOf_eq_byteSum (bs : List Byte) :
    pcvOf bs =
      { s := byteSum plainWeight 0 bs % Config.modulus
        t := byteSum placeWeight 0 bs % Config.modulus } := by
  rw [pcvOf, plainSum_eq_wordSum 0, weightedSum_eq_wordSum, wordSum_modEq plainWeight 0 bs,
    wordSum_modEq placeWeight 0 bs]

theorem pcvOf_zeros (n : Nat) : pcvOf (List.replicate n 0) = { s := 0, t := 0 } := by
  rw [pcvOf_eq_byteSum, byteSum_zeros, byteSum_zeros]
  rfl

theorem pcvOf_reduced (bs : List Byte) : (pcvOf bs).s < Config.modulus ∧ (pcvOf bs).t < Config.modulus :=
  ⟨Nat.mod_lt _ (by decide), Nat.mod_lt _ (by decide)⟩

/-! ## Bytes from a word offset on (R87) -/

theorem byteSum_plain_shift (j p : Nat) (bs : List Byte) :
    byteSum plainWeight (4 * j + p) bs = byteSum plainWeight p bs := by
  induction bs generalizing p with
  | nil => rfl
  | cons b bs ih => rw [byteSum, byteSum, Nat.add_assoc, ih, Nat.mul_add_mod, plainWeight, plainWeight]

/-- In the weighted sum a string `j` words further counts `j` plain sums more. -/
theorem byteSum_place_shift (j p : Nat) (bs : List Byte) :
    byteSum placeWeight (4 * j + p) bs = byteSum placeWeight p bs + j * byteSum plainWeight p bs := by
  induction bs generalizing p with
  | nil => rfl
  | cons b bs ih =>
    simp only [byteSum, Nat.add_assoc, ih, Nat.mul_add_mod, placeWeight, plainWeight,
      Nat.mul_add_div (show 4 > 0 by decide)]
    ring

/-- A run of bytes accumulated at its word offset takes the place of as many zeros (R87, R89). -/
theorem accumulate_over_zeros {j : Nat} {before : List Byte} (hbefore : before.length = 4 * j) (run after : List Byte) :
    accumulate (pcvOf (before ++ (List.replicate run.length 0 ++ after))) j run = pcvOf (before ++ (run ++ after)) := by
  have hsplice (g : Nat → Nat) : byteSum g 0 (before ++ (run ++ after)) =
      byteSum g 0 (before ++ (List.replicate run.length 0 ++ after)) + byteSum g (4 * j) run := by
    simp only [byteSum_append, byteSum_zeros, List.length_replicate, hbefore, Nat.zero_add]
    omega
  have hplain := byteSum_plain_shift j 0 run
  have hplace := byteSum_place_shift j 0 run
  rw [Nat.add_zero] at hplain hplace
  simp only [accumulate, pcvOf_eq_byteSum, hsplice, hplain, hplace, Pcv.mk.injEq]
  exact ⟨(Nat.add_mod ..).symm, by simp [Nat.add_mod, Nat.mul_mod, Nat.add_assoc]⟩

end Sys2Proof.Machine
end

section
/-! PROOFS. The bytes of a slot under the writing of a piece (spec/03, section 3.5; spec/04, section 4.3): what a trimmed
piece and an inserted one cover, and that the runs written to a slot and accumulated keep R89. -/
namespace Sys2Proof.Machine

/-! ## What ranges cover after trimming and insertion (R75, R77) -/

theorem covers_cons (s e : Nat) (rs : List (Nat × Nat)) (p : Nat) :
    covers ((s, e) :: rs) p = (decide (s ≤ p ∧ p < e) || covers rs p) := rfl

theorem covers_cons_iff {s e p : Nat} {rs : List (Nat × Nat)} :
    covers ((s, e) :: rs) p = true ↔ (s ≤ p ∧ p < e) ∨ covers rs p = true := by
  rw [covers_cons, Bool.or_eq_true, decide_eq_true_eq]

theorem covers_nil (p : Nat) : covers [] p = false := rfl

/-- Ranges that begin at or above `lo` cover nothing below it. -/
theorem le_of_covers {lo p : Nat} {rs : List (Nat × Nat)} (h : rangesFrom lo rs = true) (hp : covers rs p = true) :
    lo ≤ p := by
  obtain ⟨g, hg, hin⟩ := List.any_eq_true.1 hp
  have := mem_of_rangesFrom h g hg
  simp only [decide_eq_true_eq] at hin
  omega

/-- An insertion covers what the ranges or the piece covered (R77). -/
theorem covers_insertRange {lo a b : Nat} {rs : List (Nat × Nat)} (h : rangesFrom lo rs = true) (hab : a < b) (p : Nat) :
    covers (insertRange rs a b) p = true ↔ covers rs p = true ∨ (a ≤ p ∧ p < b) := by
  induction rs generalizing lo a b with
  | nil => simp [insertRange, covers]
  | cons r rs ih =>
    obtain ⟨s, e⟩ := r
    obtain ⟨⟨hs, hse⟩, hrs⟩ := rangesFrom_cons.1 h
    rw [insertRange]
    split_ifs with hbelow habove
    · rw [covers_cons_iff, covers_cons_iff, ih hrs hab, or_assoc]
    · rw [covers_cons_iff, or_comm]
    · rw [ih hrs (by omega), covers_cons_iff]
      have hunion : (min s a ≤ p ∧ p < max e b) ↔ (s ≤ p ∧ p < e) ∨ (a ≤ p ∧ p < b) := by omega
      rw [hunion]
      tauto

/-- The sub-pieces of a piece: that below the first range, and those above it. -/
theorem covers_trimPiece_cons (s e a b p : Nat) (rs : List (Nat × Nat)) :
    covers (trimPiece ((s, e) :: rs) a b) p = true ↔
      (a ≤ p ∧ p < min s b) ∨ covers (trimPiece rs (max a e) b) p = true := by
  rw [trimPiece]
  split_ifs with hfirst
  · exact covers_cons_iff
  · rw [List.nil_append]
    exact (or_iff_right (by omega)).symm

/-- The sub-pieces of a piece cover the positions of it that no range covers (R75). -/
theorem covers_trimPiece {lo a b : Nat} {rs : List (Nat × Nat)} (h : rangesFrom lo rs = true) (p : Nat) :
    covers (trimPiece rs a b) p = true ↔ (a ≤ p ∧ p < b) ∧ ¬ covers rs p = true := by
  induction rs generalizing lo a with
  | nil =>
    rw [trimPiece]
    split_ifs with hab
    · simp [covers]
    · simp [covers]
      omega
  | cons r rs ih =>
    obtain ⟨s, e⟩ := r
    obtain ⟨⟨hs, hse⟩, hrs⟩ := rangesFrom_cons.1 h
    have habove : covers rs p = true → e + 1 ≤ p := le_of_covers hrs
    rw [covers_trimPiece_cons, ih hrs, covers_cons_iff]
    by_cases hin : covers rs p = true
    · have := habove hin
      simp only [hin, not_true_eq_false, and_false, or_true, or_false, iff_false]
      omega
    · simp only [hin, Bool.false_eq_true, not_false_eq_true, and_true, or_false]
      omega

/-- The sub-pieces ascend, disjoint and not adjacent, from the start of the piece on (R75). -/
theorem rangesFrom_trimPiece {lo a b : Nat} {rs : List (Nat × Nat)} (h : rangesFrom lo rs = true) :
    rangesFrom a (trimPiece rs a b) = true := by
  induction rs generalizing lo a with
  | nil =>
    rw [trimPiece]
    split_ifs with hab
    · exact rangesFrom_cons.2 ⟨⟨le_rfl, hab⟩, rfl⟩
    · rfl
  | cons r rs ih =>
    obtain ⟨s, e⟩ := r
    obtain ⟨⟨hs, hse⟩, hrs⟩ := rangesFrom_cons.1 h
    have hlater := ih hrs (a := max a e)
    rw [trimPiece]
    split_ifs with hfirst
    · exact rangesFrom_cons.2 ⟨⟨le_rfl, hfirst⟩, rangesFrom_mono (by omega) hlater⟩
    · exact rangesFrom_mono (by omega) hlater

/-- A sub-piece ends within its piece and begins where the piece does or where a range ends below the piece's end (R75). -/
theorem trimPiece_bounds {P : Nat → Prop} {a b : Nat} {rs : List (Nat × Nat)} (hrs : ∀ g ∈ rs, g.2 < b → P g.2)
    (ha : a < b → P a) : ∀ q ∈ trimPiece rs a b, q.2 ≤ b ∧ P q.1 := by
  induction rs generalizing a with
  | nil =>
    rw [trimPiece]
    split_ifs with hab
    · exact List.forall_mem_singleton.2 ⟨le_rfl, ha hab⟩
    · exact List.forall_mem_nil _
  | cons r rs ih =>
    obtain ⟨s, e⟩ := r
    obtain ⟨he, hlater⟩ := List.forall_mem_cons.1 hrs
    rw [trimPiece]
    refine List.forall_mem_append.2 ⟨?_, ih hlater fun hmax => ?_⟩
    · split_ifs with hfirst
      · exact List.forall_mem_singleton.2 ⟨min_le_right s b, ha (by omega)⟩
      · exact List.forall_mem_nil _
    · obtain ⟨hab, heb⟩ := max_lt_iff.1 hmax
      exact max_rec' P (ha hab) (he heb)

/-! ## The bytes of a slot (R51, R78) -/

/-- The `e` bytes from address `base` up, every byte outside the positions `inside` taken as zero. -/
def slotBytes (m : List Host.Cell) (base e : Nat) (inside : Nat → Bool) : List Byte :=
  (List.range e).map fun p => if inside p then readByte m (base + p) else 0

theorem heldBytes_eq_slotBytes (s : State) (slot : Nat) (r : Extent) :
    heldBytes s slot r =
      slotBytes s.mem (slot * extentBytes s.extentSize) (extentBytes s.extentSize) (covers r.ranges) := rfl

theorem slotBytes_congr {m m' : List Host.Cell} {base e : Nat} {inside inside' : Nat → Bool}
    (hinside : ∀ p < e, inside p = inside' p) (hmem : ∀ p < e, readByte m (base + p) = readByte m' (base + p)) :
    slotBytes m base e inside = slotBytes m' base e inside' :=
  List.map_congr_left fun p hp => by rw [hinside p (List.mem_range.1 hp), hmem p (List.mem_range.1 hp)]

theorem slotBytes_empty (m : List Host.Cell) (base e : Nat) :
    slotBytes m base e (fun _ => false) = List.replicate e 0 := by
  simp [slotBytes]

/-- A slot's bytes up to a position, and those from there on. -/
theorem slotBytes_add (m : List Host.Cell) (base a n : Nat) (inside : Nat → Bool) :
    slotBytes m base (a + n) inside =
      slotBytes m base a inside ++ slotBytes m (base + a) n (fun p => inside (a + p)) := by
  simp [slotBytes, List.range_add, Nat.add_assoc]

/-- The positions taken once a run is written at the positions from `a` to `b`. -/
def withRun (inside : Nat → Bool) (a b p : Nat) : Bool := inside p || decide (a ≤ p ∧ p < b)

theorem withRun_of_run {inside : Nat → Bool} {a b p : Nat} (ha : a ≤ p) (hb : p < b) : withRun inside a b p = true := by
  rw [withRun, decide_eq_true ⟨ha, hb⟩, Bool.or_true]

theorem withRun_of_other {inside : Nat → Bool} {a b p : Nat} (h : p < a ∨ b ≤ p) : withRun inside a b p = inside p := by
  rw [withRun, decide_eq_false (by omega), Bool.or_false]

/-- A run just written reads back (R78). -/
theorem slotBytes_writeBytes_run (m : List Host.Cell) (base : Nat) (run : List Byte) {inside : Nat → Bool}
    (h : ∀ p < run.length, inside p = true) : slotBytes (writeBytes m base run) base run.length inside = run := by
  refine List.ext_getElem (by simp [slotBytes]) fun j hj hj' => ?_
  simp only [slotBytes, List.getElem_map, List.getElem_range, h j hj', if_true, readByte_writeBytes_same m base run hj']
  exact List.getD_eq_getElem _ _ hj'

/-- A run written on free positions and accumulated at its word offset keeps the PCV that of the bytes held (R87, R89):
before, its positions were taken as zeros. -/
theorem accumulate_writeBytes {m : List Host.Cell} {base e a b : Nat} {inside : Nat → Bool} {run : List Byte}
    (ha : a % 4 = 0) (hrun : a + run.length = b) (hb : b ≤ e) (hfree : ∀ p, a ≤ p → p < b → inside p = false) :
    accumulate (pcvOf (slotBytes m base e inside)) (a / 4) run =
      pcvOf (slotBytes (writeBytes m (base + a) run) base e (withRun inside a b)) := by
  obtain ⟨n, rfl⟩ := Nat.exists_eq_add_of_le hb
  subst hrun
  simp only [slotBytes_add, List.append_assoc]
  have hbefore : slotBytes (writeBytes m (base + a) run) base a (withRun inside a (a + run.length)) =
      slotBytes m base a inside :=
    slotBytes_congr (fun p hp => withRun_of_other (.inl hp)) fun p hp => readByte_writeBytes_other m run (by omega)
  have hzeros : slotBytes m (base + a) run.length (fun p => inside (a + p)) = List.replicate run.length 0 := by
    rw [← slotBytes_empty m (base + a) run.length]
    exact slotBytes_congr (fun p hp => hfree _ (by omega) (by omega)) fun _ _ => rfl
  have hwritten := slotBytes_writeBytes_run m (base + a) run
    (inside := fun p => withRun inside a (a + run.length) (a + p)) fun p hp => withRun_of_run (by omega) (by omega)
  have hafter : slotBytes (writeBytes m (base + a) run) (base + (a + run.length)) n
      (fun p => withRun inside a (a + run.length) (a + run.length + p)) =
      slotBytes m (base + (a + run.length)) n (fun p => inside (a + run.length + p)) :=
    slotBytes_congr (fun p hp => withRun_of_other (.inr (by omega))) fun p hp =>
      readByte_writeBytes_other m run (by omega)
  rw [hbefore, hzeros, hwritten, hafter]
  exact accumulate_over_zeros (by simp only [slotBytes, List.length_map, List.length_range]; omega) run _

/-- A sub-piece of extent `k` begins at a word, lies in the extent, and the payload holds all its bytes. -/
structure RunFits (e off : Nat) (payload : List Byte) (k : Nat) (q : Nat × Nat) : Prop where
  aligned : q.1 % 4 = 0
  within : q.2 ≤ e
  carried : (payloadRun e off payload k q.1 q.2).length = q.2 - q.1

/-- The sub-pieces of one piece written and accumulated one after the other (R78, R87, R89). -/
theorem accumulateRuns_writeRuns {e off k lo : Nat} {payload : List Byte} (slot : Nat) {runs : List (Nat × Nat)}
    {m : List Host.Cell} {inside : Nat → Bool} (hfits : ∀ q ∈ runs, RunFits e off payload k q)
    (hruns : rangesFrom lo runs = true) (hfree : ∀ p, covers runs p = true → inside p = false) :
    accumulateRuns (pcvOf (slotBytes m (slot * e) e inside)) e off payload k runs =
      pcvOf (slotBytes (writeRuns m e off payload slot k runs) (slot * e) e fun p => inside p || covers runs p) := by
  induction runs generalizing m inside lo with
  | nil => simp [accumulateRuns, writeRuns, covers_nil]
  | cons q runs ih =>
    obtain ⟨a, b⟩ := q
    obtain ⟨⟨-, hab⟩, hlater⟩ := rangesFrom_cons.1 hruns
    obtain ⟨hfirst, hfits⟩ := List.forall_mem_cons.1 hfits
    obtain ⟨haligned, hwithin, hcarried⟩ := hfirst
    have hwritten := accumulate_writeBytes (m := m) (base := slot * e) haligned (by rw [hcarried]; omega) hwithin
      fun p ha hb => hfree p (covers_cons_iff.2 (.inl ⟨ha, hb⟩))
    have hfree' : ∀ p, covers runs p = true → withRun inside a b p = false := fun p hp => by
      have hbeyond := le_of_covers hlater hp
      rw [withRun_of_other (.inr (by omega)), hfree p (covers_cons_iff.2 (.inr hp))]
    rw [accumulateRuns, writeRuns, hwritten, ih hfits hlater hfree']
    simp only [withRun, covers_cons, Bool.or_assoc]

/-- The writing of sub-pieces to a slot leaves every byte outside the slot as it was. -/
theorem readByte_writeRuns_other {e off k slot x : Nat} {payload : List Byte} {runs : List (Nat × Nat)}
    (m : List Host.Cell) (hfits : ∀ q ∈ runs, RunFits e off payload k q) (hx : x < slot * e ∨ slot * e + e ≤ x) :
    readByte (writeRuns m e off payload slot k runs) x = readByte m x := by
  induction runs generalizing m with
  | nil => rfl
  | cons q runs ih =>
    obtain ⟨a, b⟩ := q
    obtain ⟨⟨-, hwithin, hcarried⟩, hfits⟩ := List.forall_mem_cons.1 hfits
    rw [writeRuns, ih _ hfits]
    refine readByte_writeBytes_other m _ ?_
    rw [hcarried]
    omega

/-- The writing of sub-pieces to a slot leaves the bytes of every other slot as they were. -/
theorem slotBytes_writeRuns_other {e off k slot n : Nat} {payload : List Byte} {runs : List (Nat × Nat)}
    (m : List Host.Cell) (hfits : ∀ q ∈ runs, RunFits e off payload k q) (hn : n ≠ slot) (inside : Nat → Bool) :
    slotBytes (writeRuns m e off payload slot k runs) (n * e) e inside = slotBytes m (n * e) e inside := by
  refine slotBytes_congr (fun _ _ => rfl) fun p hp => readByte_writeRuns_other m hfits ?_
  rcases Nat.lt_or_gt_of_ne hn with hlt | hgt
  · have := Nat.mul_le_mul_right e (Nat.succ_le_of_lt hlt)
    rw [Nat.succ_mul] at this
    omega
  · have := Nat.mul_le_mul_right e (Nat.succ_le_of_lt hgt)
    rw [Nat.succ_mul] at this
    omega

end Sys2Proof.Machine
end

section
/-! PROOFS. Steps that write no byte (spec/03, section 3.4; spec/04, section 4.3): after them a record holds what its slot
held before or nothing, and so R89 stays true; each shared operation of Ops.lean and the TRAILER are such steps. -/
namespace Sys2Proof.Machine

/-! ## What is held is kept -/

/-- From `s` to `t` no byte is written under a record: a record of `t` holds nothing, or memory is as it was and the slot
had a record with the same ranges and accumulators. -/
structure HoldingKept (s t : State) : Prop where
  records : ∀ x ∈ t.extents, (x.2.ranges = [] ∧ x.2.acc = { s := 0, t := 0 }) ∨
    (t.mem = s.mem ∧ t.extentSize = s.extentSize ∧
      ∃ r, (x.1, r) ∈ s.extents ∧ x.2.ranges = r.ranges ∧ x.2.acc = r.acc)

theorem HoldingKept.refl (s : State) : HoldingKept s s :=
  ⟨fun x hx => .inr ⟨rfl, rfl, x.2, hx, rfl, rfl⟩⟩

theorem HoldingKept.trans {s t u : State} (hst : HoldingKept s t) (htu : HoldingKept t u) : HoldingKept s u := by
  refine ⟨fun x hx => ?_⟩
  rcases htu.records x hx with hempty | ⟨hmem, hsize, r, hr, hranges, hacc⟩
  · exact .inl hempty
  · rcases hst.records _ hr with ⟨hnone, hzero⟩ | ⟨hmem', hsize', q, hq, hranges', hacc'⟩
    · exact .inl ⟨hranges.trans hnone, hacc.trans hzero⟩
    · exact .inr ⟨hmem.trans hmem', hsize.trans hsize', q, hq, hranges.trans hranges', hacc.trans hacc'⟩

theorem HoldingKept.foldl {α : Type} (f : State → α → State) (hf : ∀ s a, HoldingKept s (f s a)) (l : List α)
    (s : State) : HoldingKept s (l.foldl f s) :=
  List.foldlRecOn (motive := HoldingKept s) l f (.refl s) fun _ ht a _ => ht.trans (hf _ a)

/-- A step on memory, size and records that adds no record. -/
theorem holdingKept_of_subset {s t : State} (hmem : t.mem = s.mem) (hsize : t.extentSize = s.extentSize)
    (hext : ∀ x ∈ t.extents, x ∈ s.extents) : HoldingKept s t :=
  ⟨fun x hx => .inr ⟨hmem, hsize, x.2, hext x hx, rfl, rfl⟩⟩

theorem holdingKept_of_eq {s t : State} (hmem : t.mem = s.mem) (hsize : t.extentSize = s.extentSize)
    (hext : t.extents = s.extents) : HoldingKept s t :=
  holdingKept_of_subset hmem hsize fun _ hx => hext ▸ hx

theorem holdingKept_of_no_record {s t : State} (h : t.extents = []) : HoldingKept s t :=
  ⟨fun x hx => by simp [h] at hx⟩

/-- A record without ranges holds zeros, whose PCV is zero. -/
theorem heldBytes_of_no_range {r : Extent} (hr : r.ranges = []) (s : State) (slot : Nat) :
    heldBytes s slot r = List.replicate (extentBytes s.extentSize) 0 := by
  rw [heldBytes_eq_slotBytes, hr]
  exact slotBytes_empty ..

theorem accumulatorsTrue_of_holdingKept {s t : State} (hs : AccumulatorsTrue s) (hkept : HoldingKept s t) :
    AccumulatorsTrue t := by
  intro x hx
  rcases hkept.records x hx with ⟨hnone, hzero⟩ | ⟨hmem, hsize, r, hr, hranges, hacc⟩
  · rw [heldBytes_of_no_range hnone, hzero, pcvOf_zeros]
  · rw [hacc, hs _ hr, heldBytes_eq_slotBytes, heldBytes_eq_slotBytes, hmem, hsize, hranges]

/-! ## Contexts and records -/

theorem holdingKept_setCtx (s : State) (i : Nat) (c : Context) : HoldingKept s (setCtx s i c) :=
  holdingKept_of_eq rfl rfl rfl

theorem holdingKept_modCtx (s : State) (i : Nat) (f : Context → Context) : HoldingKept s (modCtx s i f) :=
  holdingKept_of_eq (modCtx_mem ..) (modCtx_extentSize ..) (modCtx_extents ..)

theorem holdingKept_restartTimer (s : State) (i : Nat) : HoldingKept s (restartTimer s i) := holdingKept_modCtx ..

/-- A record set to one with the same ranges and accumulators, or to one that holds nothing. -/
theorem holdingKept_setExtent {s : State} {slot : Nat} {q : Extent}
    (hq : (q.ranges = [] ∧ q.acc = { s := 0, t := 0 }) ∨
      ∃ r, tabGet s.extents slot = some r ∧ q.ranges = r.ranges ∧ q.acc = r.acc) :
    HoldingKept s (setExtent s slot q) := by
  refine ⟨fun x hx => ?_⟩
  rcases mem_tabSet hx with rfl | hold
  · exact hq.imp id fun ⟨r, hr, hsame⟩ => ⟨rfl, rfl, r, mem_of_tabGet hr, hsame⟩
  · exact (HoldingKept.refl s).records x hold

theorem holdingKept_createExtent (s : State) (i k : Nat) (v : Option Pcv) : HoldingKept s (createExtent s i k v) := by
  unfold createExtent
  split
  · exact .refl s
  · next slot rest hfree =>
    have hlist : HoldingKept s { s with freeSlots := rest } := holdingKept_of_eq rfl rfl rfl
    exact (hlist.trans (holdingKept_setExtent (.inl ⟨rfl, rfl⟩))).trans (holdingKept_modCtx ..)

/-! ## The freeing of records and failure handling (R11, R14, R60) -/

theorem unlinkExtent_extents (s : State) (slot : Nat) (r : Extent) : (unlinkExtent s slot r).extents = s.extents := by
  unfold unlinkExtent
  split
  · exact modCtx_extents ..
  · exact modCtx_extents ..
  · split <;> rfl
  · rfl

theorem holdingKept_freeExtent (s : State) (slot : Nat) : HoldingKept s (freeExtent s slot) := by
  have hheld := heldWork_freeExtent s slot
  refine holdingKept_of_subset hheld.mem hheld.extentSize fun x hx => ?_
  unfold freeExtent at hx
  split at hx
  · exact hx
  · have hlisted := mem_of_mem_tabErase hx
    rwa [modCtx_extents, unlinkExtent_extents] at hlisted

theorem holdingKept_freeExtents (s : State) (l : List Nat) : HoldingKept s (freeExtents s l) :=
  .foldl _ holdingKept_freeExtent l s

theorem holdingKept_holdIfReady (s : State) (i : Nat) (q : Fin 4) : HoldingKept s (holdIfReady s i q) := by
  unfold holdIfReady
  split <;> exact holdingKept_of_eq rfl rfl rfl

theorem holdingKept_failStream (s : State) (i : Nat) (cause : Cause) : HoldingKept s (failStream s i cause) := by
  unfold failStream
  split
  · exact .refl s
  · split
    · exact .refl s
    · exact (((holdingKept_setCtx ..).trans (holdingKept_freeExtents ..)).trans (holdingKept_holdIfReady ..)).trans
        (holdingKept_modCtx ..)

theorem holdingKept_abortStreamAt (s : State) (i : Nat) : HoldingKept s (abortStreamAt s i) :=
  (holdingKept_freeExtents ..).trans (holdingKept_modCtx ..)

/-! ## DONE, the seal, the compare and the routing (R9, R70, R105, R106, R110) -/

theorem holdingKept_evalDone (s : State) (i : Nat) : HoldingKept s (evalDone s i) := by
  have henter (n : Nat) : HoldingKept s (enterDone s i n) := holdingKept_modCtx ..
  unfold evalDone
  split
  · exact .refl s
  · split
    · dsimp only
      split
      · exact .refl s
      · split
        · split
          · exact henter _
          · exact holdingKept_failStream ..
        · split
          · exact .refl s
          · exact henter _
    · exact .refl s

theorem holdingKept_sealExtent (s : State) (slot : Nat) (checked : Bool) :
    HoldingKept s (sealExtent s slot checked) := by
  unfold sealExtent
  split
  · exact .refl s
  next r hr =>
  split
  · exact .refl s
  · have hready : HoldingKept s (setExtent s slot { r with state := .ready, checked := checked }) :=
      holdingKept_setExtent (.inr ⟨r, hr, rfl, rfl⟩)
    refine (hready.trans ?_).trans ((holdingKept_restartTimer ..).trans (holdingKept_evalDone ..))
    exact holdingKept_of_eq rfl rfl rfl

/-- The extent reset empties the ranges and the accumulators together (R110). -/
theorem holdingKept_extentReset (s : State) (slot : Nat) : HoldingKept s (extentReset s slot) := by
  unfold extentReset
  split
  · exact .refl s
  · exact (holdingKept_setExtent (.inl ⟨rfl, rfl⟩)).trans (holdingKept_modCtx ..)

theorem holdingKept_compareExtent (s : State) (slot : Nat) : HoldingKept s (compareExtent s slot).1 := by
  unfold compareExtent
  split
  · exact .refl s
  · split
    · exact holdingKept_sealExtent ..
    · split
      · exact .refl s
      · split
        · exact holdingKept_extentReset ..
        · exact holdingKept_failStream ..

theorem holdingKept_routeComplete (s : State) (slot : Nat) : HoldingKept s (routeComplete s slot) := by
  unfold routeComplete
  split
  · exact .refl s
  next r hr =>
  split
  · exact .refl s
  · split
    · split
      · exact holdingKept_compareExtent ..
      · split
        · exact holdingKept_setExtent (.inr ⟨r, hr, rfl, rfl⟩)
        · exact holdingKept_sealExtent ..
    · exact .refl s

theorem holdingKept_storeCheck (s : State) (slot : Nat) (v : Pcv) : HoldingKept s (storeCheck s slot v).1 := by
  unfold storeCheck
  split
  · exact .refl s
  next r hr =>
  have hstored : HoldingKept s (setExtent s slot { r with expected := some v }) :=
    holdingKept_setExtent (.inr ⟨r, hr, rfl, rfl⟩)
  split
  · exact hstored.trans (holdingKept_compareExtent ..)
  · exact hstored

theorem holdingKept_storeObjectCheck (s : State) (i : Nat) (v : Pcv) : HoldingKept s (storeObjectCheck s i v) :=
  (holdingKept_modCtx ..).trans (holdingKept_evalDone ..)

/-! ## The learning of L and the TRAILER (R26, R50) -/

theorem holdingKept_routeLast (s : State) (i l : Nat) : HoldingKept s (routeLast s i l) := by
  unfold routeLast
  dsimp only
  split
  · split
    · exact .refl s
    · exact holdingKept_routeComplete ..
  · exact .refl s

theorem holdingKept_learnLength (s : State) (i l : Nat) : HoldingKept s (learnLength s i l) := by
  unfold learnLength
  split
  · exact .refl s
  · split
    · exact ((holdingKept_setCtx ..).trans (holdingKept_routeLast ..)).trans (holdingKept_evalDone ..)
    · exact .refl s

theorem holdingKept_trailerStore (s : State) (i : Nat) (c : Context) (a : TrailerArrival) :
    HoldingKept s (trailerStore s i c a) := by
  unfold trailerStore
  split
  · split
    · exact holdingKept_storeObjectCheck ..
    · exact .refl s
  · exact .refl s

theorem holdingKept_trailerEffects (s : State) (i : Nat) (c : Context) (a : TrailerArrival) :
    HoldingKept s (trailerEffects s i c a) := by
  have hlearnt : HoldingKept s (if c.length.isNone then learnLength (trailerStore s i c a) i a.length.toNat
      else trailerStore s i c a) := by
    split
    · exact (holdingKept_trailerStore ..).trans (holdingKept_learnLength ..)
    · exact holdingKept_trailerStore ..
  unfold trailerEffects
  dsimp only
  split
  · exact hlearnt.trans (holdingKept_restartTimer ..)
  · exact hlearnt

end Sys2Proof.Machine
end

section
/-! PROOFS. R89 and the SEGMENT (spec/02, section 2.5; spec/04, section 4.3): what it leans on, the bytes that the payload
holds for a piece, the writing of one target, and the effects of an admitted segment. -/
namespace Sys2Proof.Machine

/-! ## What the writing of a segment leans on -/

/-- Every record belongs to a stream that is not FREE (R65). -/
def RecordsOwned (s : State) : Prop := ∀ x ∈ s.extents, (ctxOf s x.2.stream).isSome = true

/-- R89, and what of the other invariants the writing of a segment leans on. -/
structure HoldingReady (s : State) : Prop where
  contexts : tabWf s.contexts = true
  extents : tabWf s.extents = true
  freeNodup : s.freeSlots.Nodup
  freeUnbound : ∀ n ∈ s.freeSlots, tabGet s.extents n = none
  owned : RecordsOwned s
  records : RecordsTrue s
  accumulators : AccumulatorsTrue s

/-- The free-slot list names each slot once, and no slot that is bound (R57). -/
theorem freeSlots_of_poolAccounted {s : State} (h : PoolAccounted s) :
    s.freeSlots.Nodup ∧ ∀ n ∈ s.freeSlots, tabGet s.extents n = none := by
  obtain ⟨hfree, -, hdisjoint⟩ := List.nodup_append.1 (h.nodup_iff.2 List.nodup_range)
  exact ⟨hfree, fun n hn => Option.eq_none_iff_forall_ne_some.2 fun r hr =>
    hdisjoint n hn n (List.mem_map_of_mem (mem_of_tabGet hr)) rfl⟩

theorem holdingReady_of_invariants {s : State} (hpool : PoolTrue s) (hranges : RangesTrue s) (hacc : AccumulatorsTrue s) :
    HoldingReady s := by
  obtain ⟨⟨hctx, hext, -, -⟩, hslots, howned, -⟩ := hpool
  obtain ⟨hnodup, hunbound⟩ := freeSlots_of_poolAccounted hslots
  exact ⟨hctx, hext, hnodup, hunbound, howned, (rangesTrue_iff s).1 hranges, hacc⟩

theorem HoldingReady.congr {s t : State} (hs : HoldingReady s) (hmem : t.mem = s.mem)
    (hsize : t.extentSize = s.extentSize) (hctx : t.contexts = s.contexts) (hext : t.extents = s.extents)
    (hfree : t.freeSlots = s.freeSlots) : HoldingReady t where
  contexts := hctx ▸ hs.contexts
  extents := hext ▸ hs.extents
  freeNodup := hfree ▸ hs.freeNodup
  freeUnbound := by rw [hfree, hext]; exact hs.freeUnbound
  owned := by simpa only [RecordsOwned, ctxOf, hctx, hext] using hs.owned
  records := recordsUnder_congr hs.records hsize hctx hext
  accumulators := accumulatorsTrue_of_holdingKept hs.accumulators (holdingKept_of_eq hmem hsize hext)

/-! ## The bytes of a piece (R41, R75, R78) -/

/-- The segment of `len` bytes at object offset `off` holds the bytes of a piece of an extent of size `e`. -/
def PieceCarried (e off len : Nat) (p : Piece) : Prop :=
  off ≤ p.index * e + p.start ∧ p.index * e + p.stop ≤ off + len

theorem pieceCarried_of_mem_piecesOf {e off len : Nat} (he : 0 < e) (hlen : 0 < len) :
    ∀ p ∈ piecesOf e off len, PieceCarried e off len p := by
  have hfirst : off / e * e ≤ off := Nat.div_mul_le_self ..
  have hbelow : off < off / e * e + e := Nat.lt_div_mul_add he
  have hlast : (off + len - 1) / e * e ≤ off + len - 1 := Nat.div_mul_le_self ..
  rw [piecesOf]
  by_cases hone : off / e = (off + len - 1) / e
  · simp only [if_pos hone, List.forall_mem_singleton, PieceCarried]
    omega
  · have hcross : off / e < (off + len - 1) / e := Nat.lt_of_le_of_ne (Nat.div_le_div_right (by omega)) hone
    have hnext : off / e * e + e ≤ (off + len - 1) / e * e := by
      rw [← Nat.succ_mul]
      exact Nat.mul_le_mul_right e hcross
    rw [if_neg hone, List.forall_mem_cons, List.forall_mem_singleton]
    simp only [PieceCarried]
    omega

/-- The sub-pieces of a piece that fits a record as R74 says begin at words and lie in the extent, their bytes in the
payload. -/
theorem runFits_of_mem_trimPiece {e off : Nat} {l : Option Nat} {payload : List Byte} {r : Extent} {p : Piece}
    (he : 0 < e) (hr : RecordTrue e l r) (hp : PieceFits e l p) (hindex : r.index = p.index)
    (hcarried : PieceCarried e off payload.length p) :
    ∀ q ∈ trimPiece r.ranges p.start p.stop, RunFits e off payload p.index q := by
  obtain ⟨-, hwithin, haligned, -⟩ := hp
  obtain ⟨hfrom, hto⟩ := hcarried
  have hbounds := trimPiece_bounds (P := fun x => x % 4 = 0) (a := p.start) (b := p.stop) (rs := r.ranges)
    (fun g hg hbelow => by
      rcases (hr.fits g hg).2.2 with hword | hend
      · exact hword
      · rw [hindex] at hend
        omega) fun _ => haligned
  have hlen := extentLength_le he l p.index
  intro q hq
  obtain ⟨hstart, hne⟩ := mem_of_rangesFrom (rangesFrom_trimPiece hr.ordered) q hq
  obtain ⟨hstop, hword⟩ := hbounds q hq
  refine ⟨hword, by omega, ?_⟩
  rw [payloadRun, List.length_take, List.length_drop]
  omega

/-- The accumulators of a record after a piece is trimmed, written and inserted are the PCV of what its slot then holds
(R77, R78, R87, R89). -/
theorem accumulateRuns_trimPiece {e off : Nat} {l : Option Nat} {payload : List Byte} {r : Extent} {p : Piece}
    (hr : RecordTrue e l r) (hp : PieceFits e l p)
    (hruns : ∀ q ∈ trimPiece r.ranges p.start p.stop, RunFits e off payload p.index q) {m : List Host.Cell} {slot : Nat}
    (hacc : r.acc = pcvOf (slotBytes m (slot * e) e (covers r.ranges))) :
    accumulateRuns r.acc e off payload p.index (trimPiece r.ranges p.start p.stop) =
      pcvOf (slotBytes (writeRuns m e off payload slot p.index (trimPiece r.ranges p.start p.stop)) (slot * e) e
        (covers (insertRange r.ranges p.start p.stop))) := by
  rw [hacc, accumulateRuns_writeRuns slot hruns (rangesFrom_trimPiece hr.ordered) fun x hx =>
    eq_false_of_ne_true ((covers_trimPiece hr.ordered x).1 hx).2]
  refine congrArg pcvOf (slotBytes_congr (fun x _ => ?_) fun _ _ => rfl)
  rw [Bool.eq_iff_iff, Bool.or_eq_true, covers_trimPiece hr.ordered, covers_insertRange hr.ordered hp.nonempty]
  tauto

/-! ## The writing of one target (R45 step 2) -/

/-- A canonical table after an entry is written lists that entry and the old ones of other numbers. -/
theorem mem_tabSet_of_tabWf {α : Type} {t : Table α} (hw : tabWf t = true) {k : Nat} {v : α} {x : Nat × α}
    (h : x ∈ tabSet t k v) : x = (k, v) ∨ (x ∈ t ∧ x.1 ≠ k) := by
  rcases mem_tabSet h with rfl | hold
  · exact .inl rfl
  · by_cases hk : x.1 = k
    · have hget := tabGet_of_mem (tabWf_tabSet hw k v) h
      rw [hk, tabGet_tabSet_same] at hget
      exact .inl (Prod.ext hk (Option.some.inj hget).symm)
    · exact .inr ⟨hold, hk⟩

/-- The slot of a target is bound to a record of the target's extent that is as R74 says, and the target's sub-pieces are
those that the record trims its piece to. -/
structure TargetTrimmed (e : Nat) (l : Option Nat) (s : State) (t : Target) (r : Extent) : Prop where
  bound : tabGet s.extents t.slot = some r
  index : r.index = t.piece.index
  record : RecordTrue e l r
  runs : t.runs = trimPiece r.ranges t.piece.start t.piece.stop

/-- A piece that fits its extent and that the segment carries. -/
abbrev PieceWritable (e : Nat) (l : Option Nat) (a : SegmentArrival) (p : Piece) : Prop :=
  PieceFits e l p ∧ PieceCarried e a.offset.toNat a.payload.length p

theorem accumulatorsTrue_writeTarget {s : State} {l : Option Nat} {a : SegmentArrival} {t : Target} {r : Extent}
    (hs : AccumulatorsTrue s) (hw : tabWf s.extents = true) (ht : TargetTrimmed (extentBytes s.extentSize) l s t r)
    (hfits : PieceWritable (extentBytes s.extentSize) l a t.piece) : AccumulatorsTrue (writeTarget a s t) := by
  obtain ⟨hr, hindex, hrec, hruns⟩ := ht
  obtain ⟨hpiece, hcarried⟩ := hfits
  have hrunFits := runFits_of_mem_trimPiece (extentBytes_pos _) hrec hpiece hindex hcarried
  have hacc := hs _ (mem_of_tabGet hr)
  unfold writeTarget
  rw [hr, hruns]
  intro x hx
  rcases mem_tabSet_of_tabWf hw hx with rfl | ⟨hold, hother⟩
  · exact accumulateRuns_trimPiece hrec hpiece hrunFits hacc
  · exact (hs x hold).trans (congrArg pcvOf (slotBytes_writeRuns_other s.mem hrunFits hother _).symm)

/-- The targets of a segment are written one after the other: they lie in different extents, and so in different slots. -/
theorem accumulatorsTrue_writeTargets {e : Nat} {l : Option Nat} (a : SegmentArrival) (ts : List Target) {s : State}
    (he : extentBytes s.extentSize = e) (hs : AccumulatorsTrue s) (hw : tabWf s.extents = true)
    (htrimmed : ∀ t ∈ ts, ∃ r, TargetTrimmed e l s t r) (hfits : ∀ t ∈ ts, PieceWritable e l a t.piece)
    (hnodup : (ts.map (·.piece.index)).Nodup) : AccumulatorsTrue (ts.foldl (writeTarget a) s) := by
  induction ts generalizing s with
  | nil => exact hs
  | cons t ts ih =>
    obtain ⟨⟨r, hr⟩, hlater⟩ := List.forall_mem_cons.1 htrimmed
    obtain ⟨hfirstFits, hlaterFits⟩ := List.forall_mem_cons.1 hfits
    obtain ⟨hindex, hnodup⟩ := List.nodup_cons.1 hnodup
    have hwritten : AccumulatorsTrue (writeTarget a s t) :=
      accumulatorsTrue_writeTarget hs hw (he ▸ hr) (he ▸ hfirstFits)
    obtain ⟨m, acc, hwrite⟩ := writeTarget_of_tabGet hr.bound a
    rw [List.foldl_cons]
    rw [hwrite] at hwritten ⊢
    refine ih he hwritten (tabWf_tabSet hw _ _) (fun u hu => ?_) hlaterFits hnodup
    obtain ⟨q, hq⟩ := hlater u hu
    have hne : u.slot ≠ t.slot := fun heq => by
      have hsame := hq.bound
      rw [heq, hr.bound] at hsame
      obtain rfl := Option.some.inj hsame
      exact hindex (List.mem_map.2 ⟨u, hu, hq.index.symm.trans hr.index⟩)
    exact ⟨q, (tabGet_tabSet_other _ _ hne).trans hq.bound, hq.index, hq.record, hq.runs⟩

/-! ## The effects of a SEGMENT (R45) -/

/-- The sub-pieces of a target: all of the piece for a new record, what the record does not cover for a LIVE position. -/
theorem runs_of_mem_targetsOf {free : List Nat} {ps : List (Piece × Place)} {t : Target} (h : t ∈ targetsOf free ps) :
    (t.fresh = true ∧ t.runs = [(t.piece.start, t.piece.stop)]) ∨
      ∃ rs, (t.piece, .live t.slot rs) ∈ ps ∧ t.runs = trimPiece rs t.piece.start t.piece.stop := by
  induction ps generalizing free with
  | nil => cases h
  | cons x ps ih =>
    have hlater {free' : List Nat} (h' : t ∈ targetsOf free' ps) :
        (t.fresh = true ∧ t.runs = [(t.piece.start, t.piece.stop)]) ∨
          ∃ rs, (t.piece, .live t.slot rs) ∈ x :: ps ∧ t.runs = trimPiece rs t.piece.start t.piece.stop :=
      (ih h').imp id fun ⟨rs, hm, hruns⟩ => ⟨rs, .tail _ hm, hruns⟩
    obtain ⟨p, place⟩ := x
    cases place with
    | duplicate => exact hlater h
    | live slot rs =>
      rw [targetsOf] at h
      split at h
      · exact hlater h
      · rcases List.mem_cons.1 h with rfl | h
        · exact .inr ⟨rs, .head _, rfl⟩
        · exact hlater h
    | absent =>
      rw [targetsOf] at h
      rcases List.mem_cons.1 h with rfl | h
      · exact .inl ⟨rfl, rfl⟩
      · exact hlater h

theorem trimPiece_nil {a b : Nat} (hab : a < b) : trimPiece [] a b = [(a, b)] := by rw [trimPiece, if_pos hab]

/-- After step 1 of R45 every target has its record, and the sub-pieces that this trims its piece to. -/
theorem targetTrimmed_createTargets {s : State} {i : Nat} {c : Context} {a : SegmentArrival} {l : Option Nat}
    (hs : HoldingReady s) (hrecords : RecordsUnder (lengthTaken i l) s) (hc : ctxOf s i = some c)
    (hroom : segmentRoom s c (placedPieces s i c a) = none)
    (hfits : ∀ t ∈ targetsOf s.freeSlots (placedPieces s i c a), t.piece.start < t.piece.stop) :
    ∀ t ∈ targetsOf s.freeSlots (placedPieces s i c a), ∃ r,
      TargetTrimmed (extentBytes s.extentSize) l
        (createTargets s i (targetsOf s.freeSlots (placedPieces s i c a))) t r := by
  obtain ⟨-, hcount⟩ := segmentRoom_eq_none hroom
  obtain ⟨hkept, hnew⟩ := tabGet_createTargets (i := i) _ hs.freeNodup hcount
  intro t ht
  rcases runs_of_mem_targetsOf ht with ⟨hfresh, hruns⟩ | ⟨rs, hplaced, hruns⟩
  · exact ⟨_, hnew t ht hfresh, rfl, recordTrue_of_empty rfl rfl _ _, hruns.trans (trimPiece_nil (hfits t ht)).symm⟩
  · obtain ⟨p, -, hp⟩ := List.mem_map.1 hplaced
    obtain ⟨rfl, hplace⟩ := Prod.mk.inj hp
    obtain ⟨r, hrec, rfl⟩ := placeOf_eq_live hplace
    obtain ⟨hget, rfl, hindex⟩ := unsealedRecord_eq_some hs.extents hrec
    have hbound : t.slot ∉ s.freeSlots := fun hmem => by simp [hs.freeUnbound _ hmem] at hget
    have htrue := recordTrue_of_tabGet hrecords hget hc
    rw [lengthTaken_same] at htrue
    exact ⟨r, (hkept _ hbound).trans hget, hindex, htrue, hruns⟩

theorem tabWf_createTargets {s : State} (hw : tabWf s.extents = true) (i : Nat) (ts : List Target) :
    tabWf (createTargets s i ts).extents = true :=
  List.foldlRecOn (motive := fun u : State => tabWf u.extents = true) _ _ hw fun u hu t _ => by
    cases hfree : u.freeSlots with
    | nil => rwa [createExtent, hfree]
    | cons slot rest =>
      rw [createExtent_extents hfree]
      exact tabWf_tabSet hu _ _

/-- Steps 1 and 2 of R45 on a segment whose pieces have room, fit their extents and are carried. -/
theorem accumulatorsTrue_writtenTargets {s : State} {i : Nat} {c : Context} {a : SegmentArrival} {l : Option Nat}
    (hs : HoldingReady s) (hrecords : RecordsUnder (lengthTaken i l) s) (hc : ctxOf s i = some c)
    (hroom : segmentRoom s c (placedPieces s i c a) = none)
    (hpieces : ∀ p ∈ piecesOf (extentBytes s.extentSize) a.offset.toNat a.payload.length,
      PieceWritable (extentBytes s.extentSize) l a p)
    {ts : List Target} (hts : ts = targetsOf s.freeSlots (placedPieces s i c a)) :
    AccumulatorsTrue (ts.foldl (writeTarget a) (createTargets s i ts)) := by
  have hsublist := targetsOf_pieces_sublist s.freeSlots (placedPieces s i c a)
  rw [placedPieces_map_fst, ← hts] at hsublist
  have hfits : ∀ t ∈ ts, PieceWritable (extentBytes s.extentSize) l a t.piece := fun t ht =>
    hpieces _ (hsublist.subset (List.mem_map_of_mem ht))
  have hindexes := (piecesOf_index_nodup _ _ _).sublist (hsublist.map (·.index))
  rw [List.map_map] at hindexes
  have htrimmed := targetTrimmed_createTargets hs hrecords hc hroom fun t ht =>
    (hfits t (hts ▸ ht)).1.nonempty
  rw [← hts] at htrimmed
  have hcreated : HoldingKept s (createTargets s i ts) := .foldl _ (fun _ _ => holdingKept_createExtent ..) _ s
  have hheld : HeldWork s (createTargets s i ts) := HeldWork.foldl _ (fun _ _ => heldWork_createExtent ..) _ s
  exact accumulatorsTrue_writeTargets a ts (congrArg extentBytes hheld.extentSize)
    (accumulatorsTrue_of_holdingKept hs.accumulators hcreated) (tabWf_createTargets hs.extents i ts) htrimmed hfits
    hindexes

theorem accumulatorsTrue_segmentEffects {s : State} {i : Nat} {c : Context} {a : SegmentArrival} {ts : List Target}
    (hs : HoldingReady s) (hc : ctxOf s i = some c) (hok : segmentAdmission s i c a = .ok ts) :
    AccumulatorsTrue (segmentEffects s i c a ts) := by
  obtain ⟨hformat, hlength, htargets⟩ := segmentAdmission_eq_ok hok
  have hwritten : AccumulatorsTrue (ts.foldl (writeTarget a) (createTargets s i ts)) := by
    rcases htargets with rfl | ⟨hroom, hts⟩
    · exact hs.accumulators
    · obtain ⟨-, hpos, -⟩ := segmentFormat_eq_none hformat
      have hcarried := pieceCarried_of_mem_piecesOf (off := a.offset.toNat) (extentBytes_pos s.extentSize) hpos
      exact accumulatorsTrue_writtenTargets hs (recordsUnder_lengthAfter hs.records hc hlength) hc hroom
        (fun p hp => ⟨pieceFits_of_segment hformat hlength p hp, hcarried p hp⟩) hts
  have hlearnt (u : State) : HoldingKept u (segmentLearn u i c a) := by
    unfold segmentLearn
    split
    · exact holdingKept_learnLength ..
    · exact .refl u
  have hrestarted (u : State) (n : Nat) : HoldingKept u (segmentRestart u i n) := by
    unfold segmentRestart
    split
    · exact .refl u
    · exact holdingKept_restartTimer ..
  refine accumulatorsTrue_of_holdingKept hwritten (((hlearnt _).trans ?_).trans (hrestarted _ _))
  exact .foldl (fun u t => routeComplete u t.slot) (fun _ _ => holdingKept_routeComplete ..) ts _

end Sys2Proof.Machine
end

section
/-! PROOFS. R89 and the commands: every row of the opcode table but SEGMENT keeps what is held, and statement O58. -/
namespace Sys2Proof.Machine

/-! ## The segment port, but for SEGMENT -/

/-- What is held is kept in the state that an outcome names. -/
def OutcomeKept (s : State) (o : Host.Outcome State Fault Refusal) : Prop := ∀ t, o = .next t → HoldingKept s t

theorem outcomeKept_next {s t : State} (h : HoldingKept s t) : OutcomeKept s (.next t) := by
  rintro _ ⟨⟩
  exact h

theorem outcomeKept_self (s : State) : OutcomeKept s (.next s) := outcomeKept_next (.refl s)

theorem holdingKept_refuseArrival (s : State) (i : Nat) (link : Fin 4) (tag : Word) (code : DispCode) :
    HoldingKept s (refuseArrival s i link tag code) := by
  have hcounted : HoldingKept s (countLink s link LinkCounters.refusal) := holdingKept_of_eq rfl rfl rfl
  exact (hcounted.trans (holdingKept_modCtx ..)).trans (holdingKept_of_eq rfl rfl rfl)

theorem holdingKept_admitAnswer (s : State) (i : Nat) (tag : Word) (code : DispCode) :
    HoldingKept s (admitAnswer s i tag code) := holdingKept_of_eq rfl rfl rfl

theorem holdingKept_handleCheck (s : State) (a : CheckArrival) : HoldingKept s (handleCheck s a) := by
  have hcounted : HoldingKept s (countLink s a.link LinkCounters.arrival) := holdingKept_of_eq rfl rfl rfl
  refine hcounted.trans ?_
  unfold handleCheck
  generalize countLink s a.link LinkCounters.arrival = u
  dsimp only
  split
  · exact holdingKept_of_eq rfl rfl rfl
  split
  · exact holdingKept_refuseArrival ..
  split
  · exact holdingKept_admitAnswer ..
  split
  · exact holdingKept_refuseArrival ..
  split
  · exact holdingKept_refuseArrival ..
  · exact holdingKept_refuseArrival ..
  · exact holdingKept_admitAnswer ..
  · exact holdingKept_admitAnswer ..
  · exact holdingKept_refuseArrival ..
  · exact holdingKept_refuseArrival ..
  · exact ((holdingKept_storeCheck ..).trans (holdingKept_restartTimer ..)).trans (holdingKept_admitAnswer ..)
  · exact ((holdingKept_createExtent ..).trans (holdingKept_restartTimer ..)).trans (holdingKept_admitAnswer ..)

theorem holdingKept_handleTrailer (s : State) (a : TrailerArrival) : HoldingKept s (handleTrailer s a) := by
  have hcounted : HoldingKept s (countLink s a.link LinkCounters.arrival) := holdingKept_of_eq rfl rfl rfl
  refine hcounted.trans ?_
  unfold handleTrailer
  generalize countLink s a.link LinkCounters.arrival = u
  dsimp only
  split
  · exact holdingKept_of_eq rfl rfl rfl
  split
  · exact holdingKept_refuseArrival ..
  split
  · exact holdingKept_admitAnswer ..
  · exact holdingKept_admitAnswer ..
  · exact holdingKept_refuseArrival ..
  · exact (holdingKept_trailerEffects ..).trans (holdingKept_admitAnswer ..)

theorem outcomeKept_execCheck (s : State) : OutcomeKept s (execCheck s) := by
  unfold execCheck
  split
  · next a rest _ _ =>
    have htaken : HoldingKept s { s with inputQueue := rest } := holdingKept_of_eq rfl rfl rfl
    exact outcomeKept_next (htaken.trans (holdingKept_handleCheck ..))
  · exact outcomeKept_self s

theorem outcomeKept_execTrailer (s : State) : OutcomeKept s (execTrailer s) := by
  unfold execTrailer
  split
  · next a rest _ _ =>
    have htaken : HoldingKept s { s with inputQueue := rest } := holdingKept_of_eq rfl rfl rfl
    exact outcomeKept_next (htaken.trans (holdingKept_handleTrailer ..))
  · exact outcomeKept_self s

theorem outcomeKept_execUnknownKind (s : State) : OutcomeKept s (execUnknownKind s) := by
  unfold execUnknownKind
  split <;> exact outcomeKept_next (holdingKept_of_eq rfl rfl rfl)

theorem outcomeKept_execArrivalDelivery (a : Arrival) (s : State) : OutcomeKept s (execArrivalDelivery a s) := by
  unfold execArrivalDelivery
  split <;> exact outcomeKept_next (holdingKept_of_eq rfl rfl rfl)

theorem outcomeKept_execDispositionAccept (s : State) : OutcomeKept s (execDispositionAccept s) := by
  unfold execDispositionAccept
  split <;> exact outcomeKept_next (holdingKept_of_eq rfl rfl rfl)

/-! ## The drain port (R143, R148 to R151, R162) -/

theorem outcomeKept_takeRequest {s : State} {body : State → State × DrainAnswer} (hbody : HoldingKept s (body s).1) :
    OutcomeKept s (takeRequest s body) := by
  rcases takeRequest_cases s body with ⟨-, h⟩ | ⟨-, h⟩
  · rw [h]
    exact outcomeKept_self s
  · rw [h]
    exact outcomeKept_next (hbody.trans (holdingKept_of_eq rfl rfl rfl))

/-- A hand-out changes the state of a record only (R143). -/
theorem holdingKept_handOut (s : State) (q : Fin 4) (h : Handle) (rest : List Handle) :
    HoldingKept s (handOut s q h rest) := by
  have hclaimed : HoldingKept s { s with extents := claimExtent s h.slot } := by
    unfold claimExtent
    split
    · exact .refl s
    · next r hr => exact holdingKept_setExtent (q := { r with state := .claimed }) (.inr ⟨r, hr, rfl, rfl⟩)
  exact hclaimed.trans (holdingKept_of_eq rfl rfl rfl)

theorem holdingKept_handOutN (n : Nat) (s : State) (q : Fin 4) : HoldingKept s (handOutN n s q).1 := by
  induction n generalizing s with
  | zero => exact .refl s
  | succ n ih =>
    unfold handOutN
    split
    · exact .refl s
    · exact (holdingKept_handOut ..).trans (ih _)

theorem holdingKept_walkPosition (s : State) (remaining : Nat) : HoldingKept s (walkPosition s remaining).1 :=
  (holdingKept_handOutN ..).trans (holdingKept_of_eq rfl rfl rfl)

theorem holdingKept_chainWalk (fuel : Nat) (s : State) (remaining idle : Nat) :
    HoldingKept s (chainWalk fuel s remaining idle).1 := by
  induction fuel generalizing s remaining idle with
  | zero => exact .refl s
  | succ fuel ih =>
    unfold chainWalk
    dsimp only
    generalize (if visitCount s remaining = 0 then idle + 1 else 0) = idle'
    split
    · exact .refl s
    · split
      · exact holdingKept_walkPosition ..
      · exact (holdingKept_walkPosition ..).trans (ih ..)

theorem holdingKept_countRelease (s : State) (i : Nat) (outcome : StoreOutcome) :
    HoldingKept s (countRelease s i outcome) := by
  cases outcome with
  | stored => exact .refl s
  | failedStore => exact holdingKept_modCtx ..

theorem holdingKept_releaseWithdrawn (s : State) (slot i : Nat) : HoldingKept s (releaseWithdrawn s slot i) := by
  unfold releaseWithdrawn
  dsimp only
  split
  · exact (holdingKept_freeExtent ..).trans (holdingKept_modCtx ..)
  · exact holdingKept_freeExtent ..

theorem holdingKept_requeueExtent {s : State} {h : Handle} {r : Extent} (hr : tabGet s.extents h.slot = some r)
    (q : Fin 4) : HoldingKept s (requeueExtent s h r q) := by
  have hset : HoldingKept s (setExtent s h.slot { r with state := .ready, storeAttempts := r.storeAttempts + 1 }) :=
    holdingKept_setExtent (.inr ⟨r, hr, rfl, rfl⟩)
  exact hset.trans (holdingKept_of_eq rfl rfl rfl)

theorem holdingKept_releaseClaim {s : State} {h : Handle} {r : Extent} (hr : tabGet s.extents h.slot = some r)
    (c : Context) (outcome : StoreOutcome) : HoldingKept s (releaseClaim s h r c outcome).1 := by
  have hcounted := holdingKept_countRelease s r.stream outcome
  rw [← (countRelease_frame s r.stream outcome).1] at hr
  refine hcounted.trans ?_
  unfold releaseClaim
  dsimp only
  split
  · exact holdingKept_releaseWithdrawn ..
  cases outcome with
  | stored => exact holdingKept_freeExtent ..
  | failedStore =>
    dsimp only
    split
    · exact holdingKept_requeueExtent hr _
    · exact (holdingKept_freeExtent ..).trans (holdingKept_failStream ..)

theorem holdingKept_releaseHandle (s : State) (h : Handle) (outcome : StoreOutcome) :
    HoldingKept s (releaseHandle h outcome s).1 := by
  unfold releaseHandle
  split
  · exact .refl s
  · next r c hj =>
    obtain ⟨-, hr, -⟩ := judgeHandle_eq_ok hj
    exact holdingKept_releaseClaim hr c outcome

theorem outcomeKept_execDrainAnswerAccept (s : State) : OutcomeKept s (execDrainAnswerAccept s) := by
  unfold execDrainAnswerAccept
  split <;> exact outcomeKept_next (holdingKept_of_eq rfl rfl rfl)

/-! ## The control port: commands that touch no record -/

/-- The taking of a command whose rule keeps what is held. -/
theorem outcomeKept_takeCommand {s : State} (hs : RecordsOwned s) (k : CommandKind) {body : List Word → State → Reply}
    (hbody : ∀ args u, RecordsOwned u → HoldingKept u (body args u).state) : OutcomeKept s (takeCommand k body s) := by
  rcases takeCommand_cases k body s with h | ⟨c, rest, -, -, -, h⟩
  · rw [h]
    exact outcomeKept_self s
  · have htaken : HoldingKept s { s with commands := rest } := holdingKept_of_eq rfl rfl rfl
    have hreply : HoldingKept { s with commands := rest }
        (runCommand k c.args { s with commands := rest } body).state := by
      unfold runCommand
      split
      · exact .refl _
      · exact hbody c.args _ hs
    rw [h]
    exact outcomeKept_next ((htaken.trans hreply).trans (holdingKept_of_eq rfl rfl rfl))

theorem holdingKept_ackAttention (s : State) (args : List Word) : HoldingKept s (ackAttention args s).state := by
  unfold ackAttention
  split <;> exact holdingKept_of_eq rfl rfl rfl

theorem holdingKept_endAttention (s : State) (args : List Word) : HoldingKept s (endAttention args s).state := by
  unfold endAttention
  split
  · exact .refl s
  · dsimp only
    split <;> exact holdingKept_of_eq rfl rfl rfl

theorem holdingKept_setClass (s : State) (args : List Word) : HoldingKept s (setClass args s).state := by
  unfold setClass
  split
  · exact .refl s
  · dsimp only
    split <;> exact holdingKept_of_eq rfl rfl rfl

theorem holdingKept_setQueue (s : State) (args : List Word) : HoldingKept s (setQueue args s).state := by
  unfold setQueue
  split <;> exact holdingKept_of_eq rfl rfl rfl

theorem holdingKept_releaseHold (s : State) (args : List Word) : HoldingKept s (releaseHold args s).state := by
  unfold releaseHold
  split <;> exact holdingKept_of_eq rfl rfl rfl

theorem holdingKept_snapshotCommand (s : State) (args : List Word) : HoldingKept s (snapshotCommand args s).state := by
  unfold snapshotCommand
  split <;> exact holdingKept_of_eq rfl rfl rfl

theorem holdingKept_readSnapshot (s : State) (args : List Word) : HoldingKept s (readSnapshot args s).state := by
  unfold readSnapshot
  split <;> exact holdingKept_of_eq rfl rfl rfl

theorem holdingKept_queryStream (s : State) (args : List Word) : HoldingKept s (queryStream args s).state := by
  unfold queryStream
  split <;> exact .refl s

theorem holdingKept_fetchNotices (s : State) (args : List Word) : HoldingKept s (fetchNotices args s).state := by
  unfold fetchNotices
  dsimp only
  split
  · exact .refl s
  · exact .foldl (clearNoticeAt _) (fun _ _ => holdingKept_modCtx ..) _ s

theorem holdingKept_readStreamCounters (s : State) (args : List Word) :
    HoldingKept s (readStreamCounters args s).state := by
  unfold readStreamCounters
  split
  · exact .refl s
  · dsimp only [accept]
    split <;> exact holdingKept_of_eq rfl rfl rfl

theorem holdingKept_setStreamTimers (s : State) (args : List Word) : HoldingKept s (setStreamTimers args s).state := by
  unfold setStreamTimers
  split
  · exact .refl s
  · split <;> exact holdingKept_of_eq rfl rfl rfl

theorem holdingKept_setGroupTimers (s : State) (args : List Word) : HoldingKept s (setGroupTimers args s).state := by
  unfold setGroupTimers
  dsimp only
  split
  · exact .refl s
  · exact .foldl _ (fun _ _ => holdingKept_modCtx ..) _ s

theorem holdingKept_closeStream (s : State) (args : List Word) : HoldingKept s (closeStream args s).state := by
  unfold closeStream
  split
  · exact .refl s
  · split <;> exact holdingKept_of_eq rfl rfl rfl

/-! ## The control port: streams, expected values and the pool -/

theorem holdingKept_openStream (s : State) (args : List Word) : HoldingKept s (openStream args s).state := by
  unfold openStream
  dsimp only
  split
  · exact .refl s
  split
  · exact .refl s
  split
  · exact .refl s
  · exact (holdingKept_setCtx ..).trans (holdingKept_evalDone ..)

theorem holdingKept_abortStream (s : State) (args : List Word) : HoldingKept s (abortStream args s).state := by
  unfold abortStream
  split
  · exact .refl s
  · split
    · exact .refl s
    · exact holdingKept_abortStreamAt ..

theorem holdingKept_abortGroup (s : State) (args : List Word) : HoldingKept s (abortGroup args s).state := by
  unfold abortGroup
  dsimp only
  split
  · exact .refl s
  · exact .foldl _ holdingKept_abortStreamAt _ s

theorem holdingKept_supplyCheck (s : State) (args : List Word) : HoldingKept s (supplyCheck args s).state := by
  unfold supplyCheck
  split
  · exact .refl s
  split
  · exact .refl s
  split
  · exact .refl s
  split
  · exact .refl s
  dsimp only
  split
  · exact .refl s
  · exact .refl s
  · exact .refl s
  · exact .refl s
  · exact .refl s
  · exact .refl s
  · exact (holdingKept_storeCheck ..).trans (holdingKept_restartTimer ..)
  · exact (holdingKept_createExtent ..).trans (holdingKept_restartTimer ..)

theorem holdingKept_supplyObjectCheck (s : State) (args : List Word) :
    HoldingKept s (supplyObjectCheck args s).state := by
  unfold supplyObjectCheck
  split
  · exact .refl s
  split
  · exact .refl s
  split
  · exact .refl s
  dsimp only
  split
  · split <;> exact .refl s
  · split
    · exact .refl s
    · exact (holdingKept_storeObjectCheck ..).trans (holdingKept_restartTimer ..)

/-- The pool changes its extent size only while no stream has a context, and so no slot a record (R53, R65). -/
theorem holdingKept_configurePool {s : State} (hs : RecordsOwned s) (args : List Word) :
    HoldingKept s (configurePool args s).state := by
  unfold configurePool
  split
  · next hidle =>
    refine holdingKept_of_no_record (List.eq_nil_iff_forall_not_mem.2 fun x hx => ?_)
    have howned := hs x hx
    rw [ctxOf, List.isEmpty_iff.1 hidle.1] at howned
    cases howned
  · exact .refl s

/-! ## The host's reads and the timers -/

theorem outcomeKept_execCommandWrite (c : CommandRecord) (s : State) : OutcomeKept s (execCommandWrite c s) := by
  unfold execCommandWrite
  split <;> exact outcomeKept_next (holdingKept_of_eq rfl rfl rfl)

theorem outcomeKept_execResponseRead (s : State) : OutcomeKept s (execResponseRead s) := by
  unfold execResponseRead
  split <;> exact outcomeKept_next (holdingKept_of_eq rfl rfl rfl)

theorem outcomeKept_execUnknownCommand (s : State) : OutcomeKept s (execUnknownCommand s) := by
  unfold execUnknownCommand
  split
  · exact outcomeKept_self s
  · split <;> exact outcomeKept_next (holdingKept_of_eq rfl rfl rfl)

theorem outcomeKept_execSnapshotCompletion (s : State) : OutcomeKept s (execSnapshotCompletion s) := by
  unfold execSnapshotCompletion
  split <;> exact outcomeKept_next (holdingKept_of_eq rfl rfl rfl)

theorem holdingKept_abandonExpire (s : State) (i : Nat) (c : Context) : HoldingKept s (abandonExpire s i c) :=
  (holdingKept_setCtx ..).trans (holdingKept_failStream ..)

theorem holdingKept_advanceTimer (s : State) (i : Nat) : HoldingKept s (advanceTimer s i) := by
  unfold advanceTimer
  split
  · exact .refl s
  split
  · exact holdingKept_setCtx ..
  split
  · exact holdingKept_abandonExpire ..
  · split <;> exact holdingKept_of_eq rfl rfl rfl

theorem outcomeKept_execGapExpiry (ctx : Fin 1024) (s : State) : OutcomeKept s (execGapExpiry ctx s) := by
  unfold execGapExpiry
  split
  · exact outcomeKept_self s
  · split <;> exact outcomeKept_next (holdingKept_of_eq rfl rfl rfl)

theorem outcomeKept_execAbandonExpiry (ctx : Fin 1024) (s : State) : OutcomeKept s (execAbandonExpiry ctx s) := by
  unfold execAbandonExpiry
  split
  · exact outcomeKept_self s
  · split
    · exact outcomeKept_next (holdingKept_abandonExpire ..)
    · exact outcomeKept_self s

/-- Every command but SEGMENT keeps what is held. -/
theorem outcomeKept_exec {i : Instr} (hi : i ≠ .segment) {s : State} (hs : RecordsOwned s) :
    OutcomeKept s (exec i s) := by
  have hcommand := outcomeKept_takeCommand hs
  cases i with
  | powerOn => exact outcomeKept_next (holdingKept_of_no_record rfl)
  | arrivalDelivery a => exact outcomeKept_execArrivalDelivery a s
  | segment => exact absurd rfl hi
  | check => exact outcomeKept_execCheck s
  | trailer => exact outcomeKept_execTrailer s
  | unknownKind => exact outcomeKept_execUnknownKind s
  | dispositionAccept => exact outcomeKept_execDispositionAccept s
  | commandWrite c => exact outcomeKept_execCommandWrite c s
  | responseRead => exact outcomeKept_execResponseRead s
  | portStatusRead => exact outcomeKept_next (holdingKept_of_eq rfl rfl rfl)
  | openStream => exact hcommand _ fun args u _ => holdingKept_openStream u args
  | closeStream => exact hcommand _ fun args u _ => holdingKept_closeStream u args
  | abortStream => exact hcommand _ fun args u _ => holdingKept_abortStream u args
  | abortGroup => exact hcommand _ fun args u _ => holdingKept_abortGroup u args
  | queryStream => exact hcommand _ fun args u _ => holdingKept_queryStream u args
  | configurePool => exact hcommand _ fun args _ hu => holdingKept_configurePool hu args
  | supplyCheck => exact hcommand _ fun args u _ => holdingKept_supplyCheck u args
  | supplyObjectCheck => exact hcommand _ fun args u _ => holdingKept_supplyObjectCheck u args
  | setStreamTimers => exact hcommand _ fun args u _ => holdingKept_setStreamTimers u args
  | setGroupTimers => exact hcommand _ fun args u _ => holdingKept_setGroupTimers u args
  | setTimerDefaults => exact hcommand _ fun _ _ _ => holdingKept_of_eq rfl rfl rfl
  | setQueue => exact hcommand _ fun args u _ => holdingKept_setQueue u args
  | releaseHold => exact hcommand _ fun args u _ => holdingKept_releaseHold u args
  | drainStatus => exact hcommand _ fun _ u _ => .refl u
  | setStoreLimit => exact hcommand _ fun _ _ _ => holdingKept_of_eq rfl rfl rfl
  | ackAttention => exact hcommand _ fun args u _ => holdingKept_ackAttention u args
  | endAttention => exact hcommand _ fun args u _ => holdingKept_endAttention u args
  | setClass => exact hcommand _ fun args u _ => holdingKept_setClass u args
  | setThreshold => exact hcommand _ fun _ _ _ => holdingKept_of_eq rfl rfl rfl
  | fetchNotices => exact hcommand _ fun args u _ => holdingKept_fetchNotices u args
  | readStreamCounters => exact hcommand _ fun args u _ => holdingKept_readStreamCounters u args
  | snapshot => exact hcommand _ fun args u _ => holdingKept_snapshotCommand u args
  | readSnapshot => exact hcommand _ fun args u _ => holdingKept_readSnapshot u args
  | queryEngine => exact hcommand _ fun _ u _ => .refl u
  | resetEngine => exact hcommand _ fun _ _ _ => holdingKept_of_no_record rfl
  | unknownCommand => exact outcomeKept_execUnknownCommand s
  | readReady q count => exact outcomeKept_takeRequest (holdingKept_handOutN _ s q)
  | chainRead count => exact outcomeKept_takeRequest (holdingKept_chainWalk chainFuel s _ 0)
  | readData h offset length => exact outcomeKept_takeRequest (by rw [readData_state]; exact .refl s)
  | release h outcome => exact outcomeKept_takeRequest (holdingKept_releaseHandle s h outcome)
  | drainStatusRequest => exact outcomeKept_takeRequest (body := fun s => (s, .summary (drainSummary s))) (.refl s)
  | unknownRequest kind => exact outcomeKept_takeRequest (body := fun s => (s, .status .unknownRequest)) (.refl s)
  | drainAnswerAccept => exact outcomeKept_execDrainAnswerAccept s
  | timerAdvance ctx => exact outcomeKept_next (holdingKept_advanceTimer s ctx.val)
  | gapExpiry ctx => exact outcomeKept_execGapExpiry ctx s
  | abandonExpiry ctx => exact outcomeKept_execAbandonExpiry ctx s
  | snapshotCompletion => exact outcomeKept_execSnapshotCompletion s

/-! ## SEGMENT and every step -/

theorem accumulatorsTrue_handleSegment {s t : State} {a : SegmentArrival} (h : handleSegment s a = .next t)
    (hs : HoldingReady s) : AccumulatorsTrue t := by
  have hs' : HoldingReady (countLink s a.link LinkCounters.arrival) := hs.congr rfl rfl rfl rfl rfl
  unfold handleSegment at h
  generalize countLink s a.link LinkCounters.arrival = u at hs' h
  dsimp only at h
  have hrefuse (i : Nat) (code : DispCode) : AccumulatorsTrue (refuseArrival u i a.link a.tag code) :=
    accumulatorsTrue_of_holdingKept hs'.accumulators (holdingKept_refuseArrival ..)
  split at h
  · cases h
    exact accumulatorsTrue_of_holdingKept hs'.accumulators (holdingKept_of_eq rfl rfl rfl)
  next i c htag =>
  obtain ⟨hc, -⟩ := lookupTag_some hs'.contexts htag
  split at h
  · cases h
    exact hrefuse _ _
  split at h
  · cases h
    exact hrefuse _ _
  next ts hok =>
  split at h
  · cases h
    have heffects := accumulatorsTrue_segmentEffects hs' hc hok
    have hcounted (v : State) (n len : Nat) : HoldingKept v (segmentCount v i a.link n len) := by
      have hlink : HoldingKept v (countLink v a.link (fun k => k.bytes n (len - n))) := holdingKept_of_eq rfl rfl rfl
      exact hlink.trans (holdingKept_modCtx ..)
    exact accumulatorsTrue_of_holdingKept heffects ((hcounted _ _ _).trans (holdingKept_of_eq rfl rfl rfl))
  · cases h

theorem accumulatorsTrue_execSegment {s t : State} (h : execSegment s = .next t) (hs : HoldingReady s) :
    AccumulatorsTrue t := by
  unfold execSegment at h
  split at h
  · exact accumulatorsTrue_handleSegment h (hs.congr rfl rfl rfl rfl rfl)
  · cases h
    exact hs.accumulators

theorem accumulatorsTrue_exec {s t : State} {i : Instr} (h : exec i s = .next t) (hs : HoldingReady s) :
    AccumulatorsTrue t := by
  by_cases hi : i = .segment
  · subst hi
    exact accumulatorsTrue_execSegment h hs
  · exact accumulatorsTrue_of_holdingKept hs.accumulators (outcomeKept_exec hi hs.owned t h)

theorem accumulatorsTrue_step {s t : State} (h : step s = .next t) (hs : HoldingReady s) : AccumulatorsTrue t := by
  unfold step at h
  split at h
  · cases h
    exact hs.accumulators
  · exact accumulatorsTrue_exec h (hs.congr rfl rfl rfl rfl rfl)

/-- Settles O58: the bytes of a piece that no range covered stood as zeros in the PCV, and their accumulation at their word
offset puts them in (`accumulate_over_zeros`, `accumulateRuns_trimPiece`); no command but SEGMENT writes a byte, and by any
other a record keeps its ranges and accumulators or is emptied of both (`outcomeKept_exec`). -/
theorem accumulatorsStayPcvOfHeldBytes : Obligations.AccumulatorsStayPcvOfHeldBytes := by
  intro s t hpool _ _ hranges hacc hstep
  have htrue := accumulatorsTrue_step hstep (holdingReady_of_invariants hpool hranges hacc)
  refine ⟨htrue, fun x hx => ?_⟩
  rw [htrue x hx]
  exact pcvOf_reduced _

end Sys2Proof.Machine
end

section
/-! PROOFS. The checks of SUPPLY_CHECK (spec/05, section 5.1): the place of an index as CHECK and SUPPLY_CHECK find it, the
answer to each place, and statement O22. -/
namespace Sys2Proof.Machine

/-! ## The expected value and the place of an index (R47, R98) -/

theorem pcvValid_eq_true_iff (a b : Word) :
    pcvValid a b = true ↔ (pcvOfWords a b).s < Config.modulus ∧ (pcvOfWords a b).t < Config.modulus := by
  simp [pcvValid, pcvOfWords]

theorem pcvValid_eq_false_iff (a b : Word) :
    pcvValid a b = false ↔ Config.modulus ≤ (pcvOfWords a b).s ∨ Config.modulus ≤ (pcvOfWords a b).t := by
  rw [← Bool.not_eq_true, pcvValid_eq_true_iff, not_and_or, not_lt, not_lt]

theorem pastLast_eq_true_iff {e k : Nat} {l : Option Nat} :
    pastLast e l k = true ↔ ∃ m, l = some m ∧ extentCount e m ≤ k := by
  cases l <;> simp [pastLast]

/-- Extent index `k` can belong to an object of stream context `x`: no test of step 4 of R47 and R98 finds it beyond the
end. -/
def IndexAllowed (s : State) (x : Context) (k : Nat) : Prop :=
  ¬ (indexLimit (extentBytes s.extentSize) ≤ k ∨ pastLast (extentBytes s.extentSize) x.length k = true)

theorem indexAllowed_iff {s : State} {x : Context} {k : Nat} :
    IndexAllowed s x k ↔ k < 2 ^ 44 / extentBytes s.extentSize ∧
      ∀ l, x.length = some l → k < extentCount (extentBytes s.extentSize) l := by
  simp only [IndexAllowed, pastLast_eq_true_iff, indexLimit, Config.maxObject, not_or, not_le, not_exists, not_and]

theorem not_indexAllowed_iff {s : State} {x : Context} {k : Nat} :
    ¬ IndexAllowed s x k ↔ 2 ^ 44 / extentBytes s.extentSize ≤ k ∨
      ∃ l, x.length = some l ∧ extentCount (extentBytes s.extentSize) l ≤ k := by
  rw [IndexAllowed, not_not, pastLast_eq_true_iff]
  rfl

/-- A position that is not ABSENT stands in the window (R20). -/
theorem in_window_of_winGet {x : Context} {k : Nat} (h : winGet x k ≠ .absent) :
    x.edge ≤ k ∧ k < x.edge + Config.windowSize := by
  unfold winGet at h
  split at h
  · rw [Config.windowSize]
    omega
  · exact absurd rfl h

section
variable {s : State} {i k : Nat} {x : Context} (v : Pcv)

theorem checkPlace_of_not_allowed (h : ¬ IndexAllowed s x k) : checkPlace s i x k v = .beyondEnd :=
  if_pos (not_not.1 h)

variable (hend : IndexAllowed s x k)
include hend

theorem checkPlace_of_above_window (h : x.edge + Config.windowSize ≤ k) : checkPlace s i x k v = .outOfWindow := by
  rw [checkPlace, if_neg hend, if_pos h]

theorem checkPlace_of_below_edge (h : k < x.edge) : checkPlace s i x k v = .late := by
  have hbelow : ¬ x.edge + Config.windowSize ≤ k := by omega
  rw [checkPlace, if_neg hend, if_neg hbelow, if_pos h]

theorem checkPlace_of_sealed (h : winGet x k = .sealed) : checkPlace s i x k v = .late := by
  obtain ⟨hlo, hhi⟩ := in_window_of_winGet (by simp [h] : winGet x k ≠ .absent)
  rw [checkPlace, if_neg hend, if_neg hhi.not_ge, if_neg hlo.not_gt, h]

theorem checkPlace_of_absent (hlo : x.edge ≤ k) (hhi : k < x.edge + Config.windowSize) (h : winGet x k = .absent) :
    checkPlace s i x k v = if s.freeSlots = [] then .noSlot else .create := by
  rw [checkPlace, if_neg hend, if_neg hhi.not_ge, if_neg hlo.not_gt, h]
  simp only [List.isEmpty_iff]

theorem checkPlace_of_expected {slot : Nat} {r : Extent} {w : Pcv} (h : winGet x k = .live)
    (hrec : unsealedRecord s i k = some (slot, r)) (hw : r.expected = some w) :
    checkPlace s i x k v = .held (decide (w = v)) := by
  obtain ⟨hlo, hhi⟩ := in_window_of_winGet (by simp [h] : winGet x k ≠ .absent)
  rw [checkPlace, if_neg hend, if_neg hhi.not_ge, if_neg hlo.not_gt, h, hrec]
  simp only [hw]

end

/-! ## SUPPLY_CHECK (R98, R99) -/

/-- The answer of SUPPLY_CHECK on a running stream to the place of its index (R98 steps 4 to 7, R99). -/
def supplyPlaced (s : State) (i k : Nat) (v : Pcv) : CheckPlace → Reply
  | .beyondEnd => refuse s .badArgument
  | .outOfWindow => refuse s .busy
  | .late => refuse s .late
  | .held true => supplyAnswer s i .stored
  | .held false => refuse s .checkConflict
  | .noSlot => refuse s .noSlot
  | .store slot => supplyAnswer (restartTimer (storeCheck s slot v).1 i) i (storeCheck s slot v).2
  | .create => supplyAnswer (restartTimer (createExtent s i k (some v)) i) i .stored

/-- The tag map names a context that is not FREE, whatever form the table has. -/
theorem ctxOf_of_lookupTag {s : State} {tag : Word} {i : Nat} {x : Context} (h : lookupTag s tag = some (i, x)) :
    ctxOf s i = some x := by
  simp only [lookupTag, Option.bind_eq_some_iff, Option.map_eq_some_iff, Prod.mk.injEq] at h
  obtain ⟨y, -, z, hz, rfl, rfl⟩ := h
  exact hz

theorem stateCodeOf_some (x : Context) : stateCodeOf (some x) = streamStateCode x.state := rfl

theorem exec_supplyCheck (s : State) : exec .supplyCheck s = takeCommand .supplyCheck supplyCheck s := rfl

section
variable {s : State} {c : CommandRecord} (hc : Taken .supplyCheck s c)
include hc

/-- A refusal by the rule of SUPPLY_CHECK is a refusal in the terms of Safety.lean. -/
theorem exec_supplyCheck_of_refuse {st : Status}
    (h : supplyCheck c.args { s with commands := s.commands.tail } = refuse { s with commands := s.commands.tail } st) :
    exec .supplyCheck s = .next (answer s c st []) := by
  rw [exec_supplyCheck, takeCommand_of_taken hc, h, placeResponse_refuse]

theorem exec_supplyCheck_bad_value (hv : pcvValid (argWord c.args 2) (argWord c.args 3) = false) :
    exec .supplyCheck s = .next (answer s c .badArgument []) :=
  exec_supplyCheck_of_refuse hc <| by rw [supplyCheck, hv]; rfl

variable (hv : pcvValid (argWord c.args 2) (argWord c.args 3) = true)
include hv

theorem exec_supplyCheck_unmapped (h : lookupTag s (argWord c.args 0) = none) :
    exec .supplyCheck s = .next (answer s c .unknownStream []) :=
  exec_supplyCheck_of_refuse hc <| by rw [supplyCheck, hv, lookupTag_commands, h]; rfl

variable {i : Nat} {x : Context} (h : lookupTag s (argWord c.args 0) = some (i, x))
include h

theorem exec_supplyCheck_bad_state (hst : x.state = .failed ∨ x.state = .withdrawing) :
    exec .supplyCheck s = .next (answer s c .badState []) :=
  exec_supplyCheck_of_refuse hc <| by
    rw [supplyCheck, hv, lookupTag_commands, h]
    exact if_pos hst

theorem exec_supplyCheck_done (hst : x.state = .done) : exec .supplyCheck s = .next (answer s c .late []) :=
  exec_supplyCheck_of_refuse hc <| by
    rw [supplyCheck, hv, lookupTag_commands, h]
    simp [hst]

variable (hst : x.state = .opened ∨ x.state = .ending)
include hst

/-- On a running stream the place of the index decides (R98 steps 4 to 7). -/
theorem exec_supplyCheck_running :
    exec .supplyCheck s = .next (placeResponse c.tag
      (supplyPlaced { s with commands := s.commands.tail } i (arg32 c.args 1)
        (pcvOfWords (argWord c.args 2) (argWord c.args 3))
        (checkPlace s i x (arg32 c.args 1) (pcvOfWords (argWord c.args 2) (argWord c.args 3))))) := by
  have hfailed : ¬ (x.state = .failed ∨ x.state = .withdrawing) := by rcases hst with hst | hst <;> simp [hst]
  have hdone : x.state ≠ .done := by rcases hst with hst | hst <;> simp [hst]
  rw [exec_supplyCheck, takeCommand_of_taken hc, supplyCheck, hv, lookupTag_commands, h]
  simp only [Bool.not_true, Bool.false_eq_true, if_false, if_neg hfailed, if_neg hdone]
  rfl

/-- An equal value is held already: the answer is STORED and nothing is stored (R99). -/
theorem exec_supplyCheck_equal
    (hp : checkPlace s i x (arg32 c.args 1) (pcvOfWords (argWord c.args 2) (argWord c.args 3)) = .held true) :
    exec .supplyCheck s = .next (answer s c .ok [word 0, word (streamStateCode x.state)]) := by
  rw [exec_supplyCheck_running hc hv h hst, hp, supplyPlaced, supplyAnswer, ctxOf_commands, ctxOf_of_lookupTag h]
  rfl

/-- A place that `supplyPlaced` refuses is refused with its status. -/
theorem exec_supplyCheck_refused {p : CheckPlace} {st : Status}
    (hp : checkPlace s i x (arg32 c.args 1) (pcvOfWords (argWord c.args 2) (argWord c.args 3)) = p)
    (hrefuse : ∀ (t : State) (k : Nat) (v : Pcv), supplyPlaced t i k v p = refuse t st) :
    exec .supplyCheck s = .next (answer s c st []) := by
  rw [exec_supplyCheck_running hc hv h hst, hp, hrefuse, placeResponse_refuse]

end

/-- Settles O22: the value, the tag and the state decide first; on a running stream each clause is one place of the index
(`checkPlace_of_…`) with the answer that `supplyPlaced` gives it. -/
theorem supplyCheckRefusals : Obligations.SupplyCheckRefusals := by
  intro s c hc refused k e v
  refine ⟨fun hbad => exec_supplyCheck_bad_value hc ((pcvValid_eq_false_iff ..).2 hbad), fun hs ht => ?_⟩
  have hv := (pcvValid_eq_true_iff (argWord c.args 2) (argWord c.args 3)).2 ⟨hs, ht⟩
  refine ⟨exec_supplyCheck_unmapped hc hv, fun i x h => ?_⟩
  refine ⟨exec_supplyCheck_bad_state hc hv h, exec_supplyCheck_done hc hv h, fun hst => ?_⟩
  have hrefused {p : CheckPlace} {st : Status} := exec_supplyCheck_refused (p := p) (st := st) hc hv h hst
  refine ⟨fun hbeyond => ?_, fun hlimit hcount => ?_⟩
  · exact hrefused (checkPlace_of_not_allowed v (not_indexAllowed_iff.2 hbeyond)) fun _ _ _ => rfl
  have hend : IndexAllowed s x k := indexAllowed_iff.2 ⟨hlimit, hcount⟩
  refine ⟨fun habove => ?_, fun hlate => ?_, fun slot r w _ hlive hrec hw => ?_, fun hlo hhi habsent hfull => ?_⟩
  · exact hrefused (checkPlace_of_above_window v hend habove) fun _ _ _ => rfl
  · have hplace : checkPlace s i x k v = .late :=
      hlate.elim (checkPlace_of_below_edge v hend) (checkPlace_of_sealed v hend)
    exact hrefused hplace fun _ _ _ => rfl
  · have hplace := checkPlace_of_expected v hend hlive hrec hw
    refine ⟨fun hne => ?_, fun heq => ?_⟩
    · rw [decide_eq_false hne] at hplace
      exact hrefused hplace fun _ _ _ => rfl
    · rw [decide_eq_true heq] at hplace
      exact exec_supplyCheck_equal hc hv h hst hplace
  · have hplace := checkPlace_of_absent (i := i) v hend hlo hhi habsent
    rw [if_pos hfull] at hplace
    exact hrefused hplace fun _ _ _ => rfl

end Sys2Proof.Machine
end

section
/-! PROOFS. SUPPLY_OBJECT_CHECK (spec/05, sections 5.2 and 5.6): what automatic failure handling and the DONE evaluation do to
a stream, and statement O24. -/
namespace Sys2Proof.Machine

/-! ## Work on one stream leaves the others alone -/

theorem onlyStream_trans {s t u : State} {i : Nat} (hst : OnlyStream s t i) (htu : OnlyStream t u i) : OnlyStream s u i := by
  obtain ⟨hwork, hctx, hrec⟩ := hst
  obtain ⟨hwork', hctx', hrec'⟩ := htu
  refine ⟨HeldWork.trans hwork hwork', fun j hj => (hctx' j hj).trans (hctx j hj), fun n r hr hne => ?_⟩
  obtain ⟨hget, hgen⟩ := hrec n r hr hne
  obtain ⟨hget', hgen'⟩ := hrec' n r hget hne
  exact ⟨hget', hgen'.trans hgen⟩

theorem onlyStream_setCtx (s : State) (i : Nat) (c : Context) : OnlyStream s (setCtx s i c) i :=
  ⟨rfl, fun _ hj => ctxOf_setCtx_other s c hj, fun _ _ hr _ => ⟨hr, rfl⟩⟩

theorem onlyStream_holdIfReady (s : State) (i : Nat) (q : Fin 4) : OnlyStream s (holdIfReady s i q) i := by
  unfold holdIfReady
  split <;> exact ⟨rfl, fun _ _ => rfl, fun _ _ hr _ => ⟨hr, rfl⟩⟩

/-- The records of a stream that are freed take no slot of another stream with them. -/
theorem FreedRecords.onlyStream {s t : State} {i : Nat} {x d : Context} {rs : List (Nat × Extent)}
    (h : FreedRecords s t i x d rs) (hw : tabWf s.extents = true)
    (hrs : ∀ y ∈ rs, tabGet s.extents y.1 = some y.2 ∧ y.2.stream = i) : OnlyStream s t i := by
  refine ⟨?_, fun j hj => by rw [h.contexts, if_neg hj], fun n r hr hne => ?_⟩
  · have hframe : HeldWork s t := by
      rw [h.frame]
      rfl
    exact hframe
  have hn : n ∉ rs.map (·.1) := fun hmem => by
    obtain ⟨y, hy, rfl⟩ := List.mem_map.1 hmem
    obtain ⟨hget, hstream⟩ := hrs y hy
    obtain rfl : y.2 = r := Option.some.inj (hget.symm.trans hr)
    exact hne hstream
  have hwf : tabWf t.extents = true := by
    rw [tabWf_iff] at hw ⊢
    rw [h.extents]
    exact hw.sublist List.filter_sublist
  have hmem : (n, r) ∈ t.extents := by
    rw [h.extents, List.mem_filter]
    exact ⟨mem_of_tabGet hr, decide_eq_true hn⟩
  exact ⟨tabGet_of_mem hwf hmem, by rw [h.gens, if_neg hn]⟩

/-- No READY record is freed: the ready queues stay. -/
theorem FreedRecords.ready_of_unsealed {s t : State} {i : Nat} {x d : Context} {rs : List (Nat × Extent)}
    (h : FreedRecords s t i x d rs) (hrs : ∀ y ∈ rs, y.2.state.unsealed = true) : t.ready = s.ready := by
  have hnone (g : Handle) : rs.any (fun y => y.2.state == .ready && g == handleOf s y.1) = false := by
    rw [List.any_eq_false]
    intro y hy hready
    have hun := hrs y hy
    simp only [Bool.and_eq_true, beq_iff_eq] at hready
    rw [hready.1] at hun
    cases hun
  refine Vector.ext fun q hq => ?_
  have hqueue := h.ready ⟨q, hq⟩
  simp only [hnone, Bool.not_false, List.filter_true, ite_self] at hqueue
  exact hqueue

/-! ## Automatic failure handling (R11) -/

/-- The unsealed records of stream `i` with their slots, ascending: those that automatic failure handling frees. -/
def unsealedRecords (s : State) (i : Nat) : List (Nat × Extent) := (recordsOf s i).filter (fun y => y.2.state.unsealed)

theorem mem_unsealedRecords {s : State} (hw : tabWf s.extents = true) {i : Nat} {y : Nat × Extent} :
    y ∈ unsealedRecords s i ↔ tabGet s.extents y.1 = some y.2 ∧ y.2.stream = i ∧ y.2.state.unsealed = true := by
  simp only [unsealedRecords, recordsOf, List.mem_filter, beq_iff_eq, ← mem_iff_tabGet hw, and_assoc]

/-- The context of a stream as automatic failure handling first leaves it (R11, step 1). -/
def failing (x : Context) (cause : Cause) : Context := { x with state := .failed, cause := some cause }

/-- The context of a stream at the end of automatic failure handling (R11, step 5), `d` being what the freeing of its
unsealed records left of it. -/
def failedContext (d : Context) (cause : Cause) : Context :=
  { d with phase := .off, notices := { d.notices with failed := some cause } }

section
variable {s : State} {i : Nat} {x : Context} (hw : tabWf s.extents = true) (hx : ctxOf s i = some x)
  (hst : ¬ (x.state = .failed ∨ x.state = .withdrawing)) (cause : Cause)
include hw hx hst

/-- Automatic failure handling of a stream that has not failed: its unsealed records are freed between the setting of its
state and that of the hold, the timer and the notice. -/
theorem failStream_eq : ∃ u d,
    FreedRecords (setCtx s i (failing x cause)) u i (failing x cause) d (unsealedRecords s i) ∧
      failStream s i cause = setCtx (holdIfReady u i x.queue) i (failedContext d cause) := by
  have hctx : ctxOf (setCtx s i (failing x cause)) i = some (failing x cause) := ctxOf_setCtx_same ..
  obtain ⟨d, hfreed⟩ := freedRecords_freeExtents (unsealedRecords s i) hctx (slotsOf_nodup hw i ExtentState.unsealed)
    fun y hy => by
      obtain ⟨hget, hstream, hun⟩ := (mem_unsealedRecords hw).1 hy
      exact ⟨hget, hstream, fun hclaimed => by simp [hclaimed, ExtentState.unsealed] at hun⟩
  refine ⟨_, d, hfreed, ?_⟩
  have hd : ctxOf (holdIfReady (freeExtents (setCtx s i (failing x cause)) ((unsealedRecords s i).map (·.1))) i x.queue) i =
      some d := by
    rw [holdIfReady]
    split <;> exact (hfreed.contexts i).trans (if_pos rfl)
  rw [failStream, hx]
  simp only [if_neg hst]
  exact modCtx_of_some hd _

/-- What automatic failure handling makes of a stream that has not failed, and what it leaves alone: every other stream, the
ready queues and the claim table. -/
theorem failStream_fails : ∃ d, ctxOf (failStream s i cause) i = some d ∧
    d =
      { x with
        state := .failed
        cause := some cause
        held := d.held
        window := d.window
        phase := .off
        notices := { x.notices with failed := some cause } } ∧
    OnlyStream s (failStream s i cause) i ∧ (failStream s i cause).ready = s.ready ∧
    (failStream s i cause).claims = s.claims := by
  obtain ⟨u, d, hfreed, heq⟩ := failStream_eq hw hx hst cause
  have hrs (y : Nat × Extent) (hy : y ∈ unsealedRecords s i) := (mem_unsealedRecords hw).1 hy
  have honly : OnlyStream s u i := onlyStream_trans (onlyStream_setCtx s i (failing x cause))
    (hfreed.onlyStream hw fun y hy => ⟨(hrs y hy).1, (hrs y hy).2.1⟩)
  have hhold : (holdIfReady u i x.queue).ready = u.ready ∧ (holdIfReady u i x.queue).claims = u.claims := by
    rw [holdIfReady]
    split <;> exact ⟨rfl, rfl⟩
  have hclaims : u.claims = s.claims := by rw [hfreed.frame]; rfl
  rw [heq]
  refine ⟨failedContext d cause, ctxOf_setCtx_same .., ?_, ?_, ?_, ?_⟩
  · exact congrArg (fun c => { failedContext c cause with held := d.held, window := d.window }) hfreed.fields
  · exact onlyStream_trans (onlyStream_trans honly (onlyStream_holdIfReady ..)) (onlyStream_setCtx ..)
  · exact hhold.1.trans (hfreed.ready_of_unsealed fun y hy => (hrs y hy).2.2)
  · exact hhold.2.trans hclaims

end

/-! ## The restart of the timer (R124) and the DONE evaluation (R9, R113) -/

theorem restartTimer_setCtx (s : State) (i : Nat) (c : Context) :
    restartTimer (setCtx s i c) i = setCtx s i (if c.state.running = true then startTimer c else c) := by
  rw [restartTimer, modCtx_of_some (ctxOf_setCtx_same s i c), setCtx_setCtx]

theorem evalDone_of_expected {s : State} {i l : Nat} {c : Context} {v : Pcv} (hc : ctxOf s i = some c)
    (hending : c.state = .ending) (hlength : c.length = some l) (hv : c.expected = some v) :
    evalDone s i =
      if c.edge < extentCount (extentBytes s.extentSize) l then s
      else if c.acc = v then enterDone s i (extentCount (extentBytes s.extentSize) l)
      else failStream s i .objectCheck := by
  rw [evalDone, hc]
  simp only [hending, hlength, hv]

/-! ## The storing of an expected object value (R102) -/

section
variable {s : State} {i : Nat} {x : Context} (hx : ctxOf s i = some x) (v : Pcv)
include hx

theorem storeObjectCheck_eq : storeObjectCheck s i v = evalDone (setCtx s i { x with expected := some v }) i := by
  rw [storeObjectCheck, modCtx_of_some hx]

/-- The stream runs on with the value held and its timer restarted. -/
theorem storeObjectCheck_waits
    (hwaits : x.state = .opened ∨
      (x.state = .ending ∧ ∃ l, x.length = some l ∧ x.edge < extentCount (extentBytes s.extentSize) l)) :
    restartTimer (storeObjectCheck s i v) i =
      setCtx s i { x with expected := some v, count := 0, phase := startPhase x.compareA x.compareB } := by
  have hctx := ctxOf_setCtx_same s i { x with expected := some v }
  have hstays : storeObjectCheck s i v = setCtx s i { x with expected := some v } := by
    rw [storeObjectCheck_eq hx]
    rcases hwaits with hopened | ⟨hending, l, hlength, hbelow⟩
    · exact evalDone_of_opened hctx hopened
    · rw [evalDone_of_expected hctx hending hlength rfl]
      exact if_pos hbelow
  have hrunning : x.state.running = true := by
    rcases hwaits with hopened | ⟨hending, -⟩
    · rw [hopened]; rfl
    · rw [hending]; rfl
  rw [hstays, restartTimer_setCtx, if_pos hrunning]
  rfl

variable {l : Nat} (hending : x.state = .ending) (hlength : x.length = some l)
  (hedge : extentCount (extentBytes s.extentSize) l ≤ x.edge)
include hending hlength hedge

theorem storeObjectCheck_compares :
    storeObjectCheck s i v =
      if x.acc = v then
        enterDone (setCtx s i { x with expected := some v }) i (extentCount (extentBytes s.extentSize) l)
      else failStream (setCtx s i { x with expected := some v }) i .objectCheck := by
  rw [storeObjectCheck_eq hx,
    evalDone_of_expected (ctxOf_setCtx_same s i { x with expected := some v }) hending hlength rfl]
  exact if_neg hedge.not_gt

/-- The object compare finds the value it expects: the stream enters DONE, where no timer restarts. -/
theorem storeObjectCheck_done (hacc : x.acc = v) :
    restartTimer (storeObjectCheck s i v) i =
      setCtx s i
        { x with
          expected := some v
          state := .done
          phase := .off
          notices := { x.notices with done := some (extentCount (extentBytes s.extentSize) l) } } := by
  rw [storeObjectCheck_compares hx v hending hlength hedge, if_pos hacc, enterDone,
    modCtx_of_some (ctxOf_setCtx_same s i { x with expected := some v }), setCtx_setCtx, restartTimer_setCtx]
  rfl

/-- The object compare finds another value: the stream fails, and no timer restarts. -/
theorem storeObjectCheck_failed (hw : tabWf s.extents = true) (hacc : x.acc ≠ v) :
    restartTimer (storeObjectCheck s i v) i = failStream (setCtx s i { x with expected := some v }) i .objectCheck := by
  have hrunning : ¬ (x.state = .failed ∨ x.state = .withdrawing) := by simp [hending]
  obtain ⟨u, d, hfreed, heq⟩ := failStream_eq (s := setCtx s i { x with expected := some v })
    (x := { x with expected := some v }) hw (ctxOf_setCtx_same ..) hrunning .objectCheck
  have hstate : (failedContext d .objectCheck).state = .failed := congrArg Context.state hfreed.fields
  rw [storeObjectCheck_compares hx v hending hlength hedge, if_neg hacc, heq, restartTimer_setCtx, hstate]
  rfl

end

/-! ## The command queue plays no part in the storing -/

theorem restartTimer_commands (s : State) (l : List CommandRecord) (i : Nat) :
    restartTimer { s with commands := l } i = { restartTimer s i with commands := l } := modCtx_commands_comm ..

theorem holdIfReady_commands (s : State) (l : List CommandRecord) (i : Nat) (q : Fin 4) :
    holdIfReady { s with commands := l } i q = { holdIfReady s i q with commands := l } := by
  have hslots : slotsOf { s with commands := l } i (· == .ready) = slotsOf s i (· == .ready) := rfl
  rw [holdIfReady, holdIfReady, hslots]
  split <;> rfl

theorem failStream_commands (s : State) (l : List CommandRecord) (i : Nat) (cause : Cause) :
    failStream { s with commands := l } i cause = { failStream s i cause with commands := l } := by
  have hset (c : Context) : setCtx { s with commands := l } i c = { setCtx s i c with commands := l } := rfl
  have hslots (t : State) : slotsOf { t with commands := l } i ExtentState.unsealed = slotsOf t i ExtentState.unsealed := rfl
  cases hc : ctxOf s i with
  | none => simp only [failStream, ctxOf_commands, hc]
  | some c =>
    simp only [failStream, ctxOf_commands, hc, hset, hslots, freeExtents_commands, holdIfReady_commands,
      modCtx_commands_comm]
    split <;> rfl

theorem evalDone_commands (s : State) (l : List CommandRecord) (i : Nat) :
    evalDone { s with commands := l } i = { evalDone s i with commands := l } := by
  have hdone (n : Nat) : enterDone { s with commands := l } i n = { enterDone s i n with commands := l } :=
    modCtx_commands_comm ..
  unfold evalDone
  rw [ctxOf_commands]
  split
  · rfl
  · split
    · dsimp only
      split
      · rfl
      · split
        · split
          · exact hdone _
          · exact failStream_commands ..
        · split
          · rfl
          · exact hdone _
    · rfl

theorem storeObjectCheck_commands (s : State) (l : List CommandRecord) (i : Nat) (v : Pcv) :
    storeObjectCheck { s with commands := l } i v = { storeObjectCheck s i v with commands := l } := by
  rw [storeObjectCheck, modCtx_commands_comm, evalDone_commands, storeObjectCheck]

/-! ## SUPPLY_OBJECT_CHECK (R102) -/

theorem exec_supplyObjectCheck (s : State) :
    exec .supplyObjectCheck s = takeCommand .supplyObjectCheck supplyObjectCheck s := rfl

section
variable {s : State} {c : CommandRecord} (hc : Taken .supplyObjectCheck s c)
include hc

theorem exec_supplyObjectCheck_of_refuse {st : Status}
    (h : supplyObjectCheck c.args { s with commands := s.commands.tail } =
      refuse { s with commands := s.commands.tail } st) :
    exec .supplyObjectCheck s = .next (answer s c st []) := by
  rw [exec_supplyObjectCheck, takeCommand_of_taken hc, h, placeResponse_refuse]

theorem exec_supplyObjectCheck_bad_value (hv : pcvValid (argWord c.args 1) (argWord c.args 2) = false) :
    exec .supplyObjectCheck s = .next (answer s c .badArgument []) :=
  exec_supplyObjectCheck_of_refuse hc <| by rw [supplyObjectCheck, hv]; rfl

variable (hv : pcvValid (argWord c.args 1) (argWord c.args 2) = true)
include hv

theorem exec_supplyObjectCheck_unmapped (h : lookupTag s (argWord c.args 0) = none) :
    exec .supplyObjectCheck s = .next (answer s c .unknownStream []) :=
  exec_supplyObjectCheck_of_refuse hc <| by rw [supplyObjectCheck, hv, lookupTag_commands, h]; rfl

variable {i : Nat} {x : Context} (h : lookupTag s (argWord c.args 0) = some (i, x))
include h

theorem exec_supplyObjectCheck_bad_state (hst : x.state = .failed ∨ x.state = .withdrawing) :
    exec .supplyObjectCheck s = .next (answer s c .badState []) :=
  exec_supplyObjectCheck_of_refuse hc <| by
    rw [supplyObjectCheck, hv, lookupTag_commands, h]
    exact if_pos hst

theorem exec_supplyObjectCheck_done (hnone : x.expected = none) (hdone : x.state = .done) :
    exec .supplyObjectCheck s = .next (answer s c .late []) :=
  exec_supplyObjectCheck_of_refuse hc <| by
    rw [supplyObjectCheck, hv, lookupTag_commands, h]
    simp [hdone, hnone]

variable (hst : ¬ (x.state = .failed ∨ x.state = .withdrawing))
include hst

/-- A value held already is kept, and answers for itself. -/
theorem exec_supplyObjectCheck_held {w : Pcv} (hw : x.expected = some w) :
    exec .supplyObjectCheck s = .next
      (if w = pcvOfWords (argWord c.args 1) (argWord c.args 2) then
        answer s c .ok [word (streamStateCode x.state)]
      else answer s c .checkConflict []) := by
  have hanswer : supplyObjectAnswer { s with commands := s.commands.tail } i =
      accept { s with commands := s.commands.tail } [word (streamStateCode x.state)] := by
    rw [supplyObjectAnswer, ctxOf_commands, ctxOf_of_lookupTag h, stateCodeOf_some]
  rw [exec_supplyObjectCheck, takeCommand_of_taken hc, supplyObjectCheck, hv, lookupTag_commands, h]
  simp only [Bool.not_true, Bool.false_eq_true, if_false, if_neg hst, hw, hanswer]
  split
  · rw [placeResponse_accept (t := s) rfl]
  · rw [placeResponse_refuse]

/-- A stream without a value stores the one given, `t` being what the storing and the restart of the timer leave. -/
theorem exec_supplyObjectCheck_stored {t : State} {d : Context} (hnone : x.expected = none) (hdone : x.state ≠ .done)
    (ht : restartTimer (storeObjectCheck s i (pcvOfWords (argWord c.args 1) (argWord c.args 2))) i = t)
    (hd : ctxOf t i = some d) :
    exec .supplyObjectCheck s = .next (answer t c .ok [word (streamStateCode d.state)]) := by
  have hcommands : t.commands = s.commands := by
    rw [← ht]
    exact ((heldWork_storeObjectCheck ..).trans (heldWork_restartTimer ..)).commands
  rw [exec_supplyObjectCheck, takeCommand_of_taken hc, supplyObjectCheck, hv, lookupTag_commands, h]
  simp only [Bool.not_true, Bool.false_eq_true, if_false, if_neg hst, hnone, if_neg hdone, storeObjectCheck_commands,
    restartTimer_commands, ht]
  rw [supplyObjectAnswer, ctxOf_commands, hd, stateCodeOf_some, placeResponse_accept (t := t) (by rw [hcommands])]

end

/-- Settles O24: a value held already answers for itself; otherwise the storing leaves the stream running, takes it to DONE or
fails it (`storeObjectCheck_waits`, `storeObjectCheck_done`, `storeObjectCheck_failed`). -/
theorem supplyObjectCheckDecides : Obligations.SupplyObjectCheckDecides := by
  intro s c hc hpool refused e v
  obtain ⟨⟨-, hw, -⟩, -⟩ := hpool
  refine ⟨fun hbad => exec_supplyObjectCheck_bad_value hc ((pcvValid_eq_false_iff ..).2 hbad), fun hs ht => ?_⟩
  have hv := (pcvValid_eq_true_iff (argWord c.args 1) (argWord c.args 2)).2 ⟨hs, ht⟩
  refine ⟨exec_supplyObjectCheck_unmapped hc hv, fun i x h => ?_⟩
  refine ⟨exec_supplyObjectCheck_bad_state hc hv h, fun hfailed hwithdrawing => ?_⟩
  have hst : ¬ (x.state = .failed ∨ x.state = .withdrawing) := not_or.2 ⟨hfailed, hwithdrawing⟩
  have hx := ctxOf_of_lookupTag h
  refine ⟨fun w hexp => ?_, exec_supplyObjectCheck_done hc hv h, fun hnone hwaits => ?_,
    fun l hnone hending hlength hedge => ⟨fun hacc => ?_, fun hacc => ?_⟩⟩
  · have hexec := exec_supplyObjectCheck_held hc hv h hst hexp
    refine ⟨fun hne => ?_, fun heq => ?_⟩
    · rwa [if_neg hne] at hexec
    · rwa [if_pos heq] at hexec
  · have hdone : x.state ≠ .done := by rcases hwaits with hopened | ⟨hending, -⟩ <;> simp [*]
    have hexec := exec_supplyObjectCheck_stored hc hv h hst hnone hdone (storeObjectCheck_waits hx v hwaits)
      (ctxOf_setCtx_same ..)
    exact hexec
  · have hdone : x.state ≠ .done := by simp [hending]
    exact exec_supplyObjectCheck_stored hc hv h hst hnone hdone (storeObjectCheck_done hx v hending hlength hedge hacc)
      (ctxOf_setCtx_same ..)
  · have hdone : x.state ≠ .done := by simp [hending]
    obtain ⟨d, hd, hfields, honly, hready, hclaims⟩ := failStream_fails (s := setCtx s i { x with expected := some v })
      (x := { x with expected := some v }) hw (ctxOf_setCtx_same ..) hst .objectCheck
    have hexec := exec_supplyObjectCheck_stored hc hv h hst hnone hdone
      (storeObjectCheck_failed hx v hending hlength hedge hw hacc) hd
    have hstate : d.state = .failed := congrArg Context.state hfields
    rw [hstate] at hexec
    exact ⟨_, d, hexec, hd, hstate, congrArg Context.cause hfields, congrArg Context.phase hfields,
      congrArg Context.expected hfields, congrArg Context.notices hfields,
      onlyStream_trans (onlyStream_setCtx ..) honly, hready, hclaims, rfl⟩

end Sys2Proof.Machine
end

section
/-! PROOFS. The readout of one queue (spec/07, sections 7.4 and 7.5): what a hand-out of several entries makes of the state,
what a descriptor says, and statement O37. -/
namespace Sys2Proof.Machine

/-! ## The taking of a drain request (R133) -/

theorem takeRequest_of_none {s : State} (hs : s.drainAnswer = none) (body : State → State × DrainAnswer) :
    takeRequest s body = .next { (body s).1 with drainAnswer := some (body s).2 } := by
  rw [takeRequest, hs]

theorem clamp_one {hi : Nat} (hhi : 1 ≤ hi) (n : Nat) :
    clamp 1 hi n = if n = 0 then 1 else if hi < n then hi else n := by
  unfold clamp
  split
  · omega
  · split <;> omega

/-! ## Descriptors (R140, R141) -/

theorem descriptorOf_eq {s : State} {h : Handle} {r : Extent} {x : Context} (hr : tabGet s.extents h.slot = some r)
    (hx : ctxOf s r.stream = some x) (q : Fin 4) : descriptorOf s q h = descriptorFor s q h r x := by
  simp only [descriptorOf, hr, hx]

theorem isLast_eq_true_iff {e k : Nat} {x : Context} :
    isLast e x k = true ↔ ∃ l, x.length = some l ∧ k + 1 = extentCount e l := by
  unfold isLast
  cases x.length <;> simp

theorem extentLength_of_known (e l k : Nat) :
    extentLength e (some l) k = if k + 1 = extentCount e l then l - (extentCount e l - 1) * e else e := by
  simp only [extentLength]
  split
  · next hlast => rw [← hlast, Nat.add_sub_cancel]
  · rfl

/-! ## The hand-out of entries (R143) -/

theorem tabGet_handOut (s : State) (q : Fin 4) (h : Handle) (rest : List Handle) (slot : Nat) :
    tabGet (handOut s q h rest).extents slot =
      if slot = h.slot then (tabGet s.extents slot).map (fun r => { r with state := .claimed })
      else tabGet s.extents slot :=
  tabGet_claimExtent s h.slot slot

/-- A descriptor does not depend on whether a record, its own included, has become CLAIMED. -/
theorem descriptorOf_handOut (s : State) (q p : Fin 4) (h g : Handle) (rest : List Handle) :
    descriptorOf (handOut s q h rest) p g = descriptorOf s p g := by
  unfold descriptorOf
  rw [tabGet_handOut]
  by_cases hslot : g.slot = h.slot
  · rw [if_pos hslot]
    cases tabGet s.extents g.slot <;> rfl
  · rw [if_neg hslot]
    rfl

theorem handOutN_of_cons {s : State} {q : Fin 4} {h : Handle} {rest : List Handle} (hq : s.ready[q] = h :: rest)
    (n : Nat) :
    handOutN (n + 1) s q =
      ((handOutN n (handOut s q h rest) q).1,
        .extent (descriptorOf s q h) :: (handOutN n (handOut s q h rest) q).2) := by
  rw [handOutN, hq]

theorem handOutN_of_nil {s : State} {q : Fin 4} (hq : s.ready[q] = []) (n : Nat) : handOutN n s q = (s, []) := by
  cases n with
  | zero => rfl
  | succ n => rw [handOutN, hq]

theorem ready_handOut_same (s : State) (q : Fin 4) (h : Handle) (rest : List Handle) :
    (handOut s q h rest).ready[q] = rest :=
  Vector.getElem_set_self ..

/-- The hand-out takes entries from the head of its queue to the claim table, and touches only records besides (R143). -/
theorem handOutN_state (n : Nat) (s : State) (q : Fin 4) :
    (handOutN n s q).1 =
      { s with
        ready := s.ready.set q (s.ready[q].drop n)
        claims := s.claims ++ s.ready[q].take n
        extents := (handOutN n s q).1.extents } := by
  induction n generalizing s with
  | zero => simp [handOutN]
  | succ n ih =>
    cases hq : s.ready[q] with
    | nil =>
      have hset : s.ready.set q [] = s.ready := by
        rw [← hq]
        exact Vector.set_getElem_self ..
      rw [handOutN_of_nil hq]
      simp [hset]
    | cons h rest =>
      rw [handOutN_of_cons hq]
      conv_lhs => rw [ih, ready_handOut_same]
      simp [handOut]

theorem handOutN_records (n : Nat) (s : State) (q : Fin 4) :
    (handOutN n s q).2 = (s.ready[q].take n).map (fun h => .extent (descriptorOf s q h)) := by
  induction n generalizing s with
  | zero => rfl
  | succ n ih =>
    cases hq : s.ready[q] with
    | nil => rw [handOutN_of_nil hq]; rfl
    | cons h rest =>
      rw [handOutN_of_cons hq, ih, ready_handOut_same]
      simp [descriptorOf_handOut]

/-- The records of the entries handed out become CLAIMED (R143, step 3). -/
theorem tabGet_handOutN (n : Nat) (s : State) (q : Fin 4) (slot : Nat) :
    tabGet (handOutN n s q).1.extents slot =
      if slot ∈ (s.ready[q].take n).map (fun h => h.slot) then
        (tabGet s.extents slot).map (fun x => { x with state := .claimed })
      else tabGet s.extents slot := by
  induction n generalizing s with
  | zero => simp [handOutN]
  | succ n ih =>
    cases hq : s.ready[q] with
    | nil => simp [handOutN_of_nil hq]
    | cons h rest =>
      rw [handOutN_of_cons hq, ih, ready_handOut_same, tabGet_handOut]
      by_cases hslot : slot = h.slot
      · simp [hslot, Function.comp_def]
      · simp [hslot]

/-! ## READ_READY (R143, R144) -/

theorem exec_readReady {s : State} (hs : s.drainAnswer = none) (q : Fin 4) (count : BitVec 8) :
    exec (.readReady q count) s =
      .next
        { (readReady q (readCount count) s).1 with drainAnswer := some (readReady q (readCount count) s).2 } :=
  takeRequest_of_none hs _

/-- Settles O37: the state, the records and the descriptors of a hand-out by `handOutN_state`, `tabGet_handOutN` and
`handOutN_records`, and the fields of a descriptor by `descriptorOf_eq`. -/
theorem readReadyHandsOutDescriptors : Obligations.ReadReadyHandsOutDescriptors := by
  refine ⟨?_, ?_⟩
  · intro s q count hs n r heads
    have hn : readCount count = n := clamp_one (by decide) _
    have hrun : readyRun s q n = r := rfl
    have hexec := exec_readReady hs q count
    rw [hn, readReady, hrun, handOutN_records] at hexec
    refine ⟨_, hexec, tabGet_handOutN r s q, ?_⟩
    conv_lhs => rw [handOutN_state]
    rfl
  · intro s q h r x hr hx e d
    have hd : d = descriptorFor s q h r x := descriptorOf_eq hr hx q
    rw [hd]
    refine ⟨rfl, rfl, rfl, rfl, rfl, rfl, fun hnone => ?_, fun l hl => ?_, isLast_eq_true_iff, ?_, ?_, ?_, ?_⟩
    · simp [descriptorFor, hnone, extentLength, e]
    · simp only [descriptorFor, hl]
      exact extentLength_of_known ..
    all_goals simp [descriptorFor]

end Sys2Proof.Machine
end

section
/-! PROOFS. Handles (spec/07, sections 7.6 and 7.7): the judgement of a handle, READ_DATA and RELEASE, and statements O40 and
O42. -/
namespace Sys2Proof.Machine

/-! ## The judgement of a handle (R146) -/

theorem judgeHandle_of_stale {s : State} {h : Handle} (hgen : genOf s h.slot ≠ h.gen) :
    judgeHandle s h = .error .staleHandle :=
  if_pos hgen

theorem judgeHandle_of_not_claimed {s : State} {h : Handle} (hgen : genOf s h.slot = h.gen) (hclaim : h ∉ s.claims) :
    judgeHandle s h = .error .notClaimed := by
  rw [judgeHandle, if_neg (not_not_intro hgen), if_neg (fun hcurrent => hclaim hcurrent.2)]

theorem judgeHandle_of_currentClaim {s : State} {h : Handle} {r : Extent} {x : Context} (hc : CurrentClaim s h r x) :
    judgeHandle s h = .ok (r, x) := by
  obtain ⟨hgen, hslot, hclaim, hr, -, hx⟩ := hc
  simp only [judgeHandle, if_neg (not_not_intro hgen), if_pos (And.intro hslot hclaim), hr, hx]

/-- A bound slot is one of the pool's (R57). -/
theorem slot_lt_of_poolAccounted {s : State} (h : PoolAccounted s) {slot : Nat} {r : Extent}
    (hr : tabGet s.extents slot = some r) : slot < slotCount s.extentSize := by
  have hbound : slot ∈ s.extents.map (fun x => x.1) := List.mem_map_of_mem (mem_of_tabGet hr)
  exact List.mem_range.1 (h.mem_iff.1 (List.mem_append_right _ hbound))

/-- A handle that passes both steps of the judgement is a current claim. -/
theorem exists_currentClaim {s : State} (hpool : PoolTrue s) (hclaims : ClaimsExact s) {h : Handle}
    (hgen : genOf s h.slot = h.gen) (hclaim : h ∈ s.claims) : ∃ r x, CurrentClaim s h r x := by
  obtain ⟨-, hslots, howned, -⟩ := hpool
  obtain ⟨-, -, hnamed, -⟩ := hclaims
  have hname := hnamed h hclaim
  obtain ⟨r, hr⟩ : ∃ r, tabGet s.extents h.slot = some r := by
    rw [← Option.isSome_iff_exists]
    by_contra hnone
    simp [namesRecord, Option.not_isSome_iff_eq_none.1 hnone] at hname
  obtain ⟨x, hx⟩ := Option.isSome_iff_exists.1 (howned _ (mem_of_tabGet hr))
  exact ⟨r, x, hgen, slot_lt_of_poolAccounted hslots hr, hclaim, hr, state_of_namesRecord hname hr, hx⟩

/-! ## READ_DATA (R147) -/

theorem exec_readData {s : State} (hs : s.drainAnswer = none) (h : Handle) (offset : Word) (length : BitVec 17) :
    exec (.readData h offset length) s =
      .next { s with drainAnswer := some (readData h offset.toNat (dataLength length) s).2 } := by
  have htaken := takeRequest_of_none hs (readData h offset.toNat (dataLength length))
  rwa [readData_state] at htaken

theorem readData_of_error {s : State} {h : Handle} {st : DrainStatus} (hj : judgeHandle s h = .error st)
    (offset length : Nat) : readData h offset length s = (s, .status st) := by
  rw [readData, hj]

theorem readData_of_ok {s : State} {h : Handle} {r : Extent} {x : Context} (hj : judgeHandle s h = .ok (r, x))
    (offset length : Nat) :
    readData h offset length s =
      if extentLength (extentBytes s.extentSize) x.length r.index ≤ offset then (s, .status .badOffset)
      else
        (s, .data
          (readBytes s.mem (h.slot * extentBytes s.extentSize + offset)
            (min length (extentLength (extentBytes s.extentSize) x.length r.index - offset)))) := by
  rw [readData, hj]

/-! ## RELEASE (R148 to R151) -/

theorem exec_release {s : State} (hs : s.drainAnswer = none) (h : Handle) (outcome : StoreOutcome) :
    exec (.release h outcome) s =
      .next { (releaseHandle h outcome s).1 with drainAnswer := some (releaseHandle h outcome s).2 } :=
  takeRequest_of_none hs _

theorem releaseHandle_of_error {s : State} {h : Handle} {st : DrainStatus} (hj : judgeHandle s h = .error st)
    (outcome : StoreOutcome) : releaseHandle h outcome s = (s, .status st) := by
  rw [releaseHandle, hj]

theorem exec_release_of_currentClaim {s : State} (hs : s.drainAnswer = none) {h : Handle} {r : Extent} {x : Context}
    (hc : CurrentClaim s h r x) (outcome : StoreOutcome) :
    exec (.release h outcome) s =
      .next
        { (releaseClaim s h r x outcome).1 with
          drainAnswer := some (.status (releaseClaim s h r x outcome).2) } := by
  rw [exec_release hs, releaseHandle, judgeHandle_of_currentClaim hc]

/-- A handle that is judged stale or not claimed gets that answer from both requests, and nothing else changes. -/
theorem exec_of_judgeHandle_error {s : State} (hs : s.drainAnswer = none) {h : Handle} {st : DrainStatus}
    (hj : judgeHandle s h = .error st) (offset : Word) (length : BitVec 17) (outcome : StoreOutcome) :
    exec (.readData h offset length) s = .next { s with drainAnswer := some (.status st) } ∧
      exec (.release h outcome) s = .next { s with drainAnswer := some (.status st) } := by
  rw [exec_readData hs, exec_release hs, readData_of_error hj, releaseHandle_of_error hj]
  exact ⟨rfl, rfl⟩

/-- Settles O40: the judgement by `exec_of_judgeHandle_error` and `exists_currentClaim`, and the two answers to a current
claim by `readData_of_ok`. -/
theorem handlesAreJudgedAndDataRead : Obligations.HandlesAreJudgedAndDataRead := by
  refine ⟨fun s h offset length outcome hs =>
    ⟨fun hgen => ?_, fun hgen hclaim => ?_, fun hpool hclaims => exists_currentClaim hpool hclaims⟩, ?_⟩
  · exact exec_of_judgeHandle_error hs (judgeHandle_of_stale hgen) offset length outcome
  · exact exec_of_judgeHandle_error hs (judgeHandle_of_not_claimed hgen hclaim) offset length outcome
  · intro s h r x offset length hs hc e len m
    have hm : dataLength length = m := clamp_one (by decide) _
    rw [exec_readData hs, hm, readData_of_ok (judgeHandle_of_currentClaim hc)]
    refine ⟨fun hbeyond => ?_, fun hwithin => ?_⟩
    · rw [if_pos hbeyond]
    · rw [if_neg (Nat.not_le.2 hwithin), readBytes_eq_map]

/-! ## The freeing of a claimed record (R60, R149) -/

theorem handleOf_of_genOf {s : State} {h : Handle} (hgen : genOf s h.slot = h.gen) : handleOf s h.slot = h := by
  rw [handleOf, hgen]

/-- The freeing step on a record that is CLAIMED: its handle leaves the claim table. -/
theorem freeExtent_of_claimed {s : State} {slot : Nat} {r : Extent} {c : Context} (hr : tabGet s.extents slot = some r)
    (hc : ctxOf s r.stream = some c) (hst : r.state = .claimed) :
    freeExtent s slot =
      { s with
        contexts := tabSet s.contexts r.stream { c with held := c.held - 1 }
        extents := tabErase s.extents slot
        freeSlots := s.freeSlots ++ [slot]
        gens := bumpGen s slot
        claims := s.claims.filter (fun g => g != handleOf s slot) } := by
  have hunlink : unlinkExtent s slot r = { s with claims := s.claims.filter (fun g => g != handleOf s slot) } := by
    rw [unlinkExtent, hst]
  exact freeExtent_of_unlinkExtent hr hunlink hc

theorem releaseClaim_stored {s : State} {x : Context} (hst : x.state ≠ .withdrawing) (h : Handle) (r : Extent) :
    releaseClaim s h r x .stored =
      (freeExtent s h.slot, if x.state = .failed then .releasedFailed else .released) :=
  if_neg hst

theorem releaseClaim_requeued {s : State} {r : Extent} {x : Context} (hst : x.state ≠ .withdrawing)
    (hlimit : r.storeAttempts + 1 < s.storeLimit) (h : Handle) :
    releaseClaim s h r x .failedStore = (requeueExtent (countStoreFailure s r.stream) h r x.queue, .requeued) := by
  rw [releaseClaim, if_neg hst]
  exact if_pos hlimit

/-- Settles O42: a STORED release is the freeing step on a claimed record (`freeExtent_of_claimed`), and a FAILED_STORE one
within the limit counts and requeues (`releaseClaim_requeued`). -/
theorem releasesFreeOrRequeue : Obligations.ReleasesFreeOrRequeue := by
  refine ⟨fun s h r x hs hc hst => ?_, fun s h r x hs hc hst hlimit => ?_⟩
  · have hexec := exec_release_of_currentClaim hs hc .stored
    obtain ⟨hgen, -, -, hr, hclaimed, hx⟩ := hc
    rw [releaseClaim_stored hst, freeExtent_of_claimed hr hx hclaimed, handleOf_of_genOf hgen] at hexec
    exact ⟨_, hexec, getD_bumpGen s h.slot, rfl⟩
  · have hexec := exec_release_of_currentClaim hs hc .failedStore
    obtain ⟨-, -, -, -, -, hx⟩ := hc
    rwa [releaseClaim_requeued hst hlimit, countStoreFailure, modCtx_of_some hx] at hexec

end Sys2Proof.Machine
end

section
/-! PROOFS. The chained readout (spec/08): the quotas, the walking of one position, the walk of a CHAIN_READ, and statements
O38 and O39. -/
namespace Sys2Proof.Machine

/-! ## Quotas (R160) -/

/-- Both parts of a quota as one division: round 0 rounds a quarter of the weight up, round 3 rounds it down. -/
theorem quota_eq_div (w : Nat) {round : Nat} (hround : round < 4) : quota w round = (w + 3 - round) / 4 := by
  unfold quota
  split <;> omega

theorem quota_sum (w : Nat) : quota w 0 + quota w 1 + quota w 2 + quota w 3 = w := by
  simp only [quota_eq_div, Nat.reduceLT]
  omega

theorem quota_le {w : Nat} (hw : w ≤ 127) {round : Nat} (hround : round < 4) : quota w round ≤ 32 := by
  rw [quota_eq_div w hround]
  omega

/-! ## The walking of one position (R158, R159, steps 3 and 4 of R162) -/

theorem nextPosition_eq (c : Cursor) :
    nextPosition c =
      if c.queue = 3 then { round := c.round + 1, queue := 0 } else { round := c.round, queue := c.queue + 1 } := by
  unfold nextPosition
  split
  · next hlast => rw [hlast]; rfl
  · rfl

theorem visited_iff (s : State) (q : Fin 4) :
    visited s q = true ↔ s.params[q].member = true ∧ 0 < s.params[q].weight ∧ s.hold[q] = false := by
  simp [visited, and_assoc]

theorem visitCount_le_remaining (s : State) (remaining : Nat) : visitCount s remaining ≤ remaining := by
  unfold visitCount
  split
  · exact (Nat.min_le_right ..).trans (Nat.min_le_left ..)
  · exact Nat.zero_le _

theorem walkPosition_records (s : State) (remaining : Nat) :
    (walkPosition s remaining).2 =
      (s.ready[s.cursor.queue].take (visitCount s remaining)).map
        (fun h => .extent (descriptorOf s s.cursor.queue h)) :=
  handOutN_records ..

theorem walkPosition_state (s : State) (remaining : Nat) :
    (walkPosition s remaining).1 =
      { s with
        ready := s.ready.set s.cursor.queue (s.ready[s.cursor.queue].drop (visitCount s remaining))
        claims := s.claims ++ s.ready[s.cursor.queue].take (visitCount s remaining)
        extents := (walkPosition s remaining).1.extents
        cursor := nextPosition s.cursor } := by
  conv_lhs => rw [walkPosition, handOutN_state]
  rfl

theorem length_walkPosition_le (s : State) (remaining : Nat) :
    (walkPosition s remaining).2.length ≤ visitCount s remaining := by
  rw [walkPosition_records, List.length_map]
  exact List.length_take_le ..

/-- Settles O38: the quotas by `quota_sum` and `quota_le`, and a walked position by `visited_iff`, `walkPosition_records`,
`tabGet_handOutN`, `walkPosition_state` and `nextPosition_eq`. -/
theorem quotasAndWalkedPositions : Obligations.QuotasAndWalkedPositions := by
  refine ⟨fun w => ⟨fun i _ => rfl, quota_sum w, fun hw i hi => quota_le hw hi⟩, ?_⟩
  intro s remaining q p h heads
  have hcount : visitCount s remaining = h := if_congr (visited_iff s q) rfl rfl
  have hheads : s.ready[q].take (visitCount s remaining) = heads := by rw [hcount]
  refine ⟨hcount, ?_, fun slot => ?_, ?_⟩
  · rw [walkPosition_records, hheads]
  · rw [← hheads]
    exact tabGet_handOutN ..
  · conv_lhs => rw [walkPosition_state, nextPosition_eq, hheads, hcount]

/-! ## The walk of a CHAIN_READ (R161 to R163) -/

theorem chainWalk_of_full {s : State} (hfull : 64 ≤ s.claims.length) (fuel remaining idle : Nat) :
    chainWalk (fuel + 1) s remaining idle = (s, []) :=
  if_pos hfull

/-- The fourth position in a row without hand-out is one without hand-out after three. -/
theorem idle_eq_four_iff {h idle : Nat} : (if h = 0 then idle + 1 else 0) = 4 ↔ h = 0 ∧ idle = 3 := by
  split <;> omega

theorem chainWalk_of_stop {s : State} {remaining idle : Nat} (hfree : s.claims.length < 64)
    (hstop : remaining - visitCount s remaining = 0 ∨ (visitCount s remaining = 0 ∧ idle = 3)) (fuel : Nat) :
    chainWalk (fuel + 1) s remaining idle = walkPosition s remaining :=
  (if_neg (Nat.not_le.2 hfree)).trans (if_pos (hstop.imp_right idle_eq_four_iff.2))

theorem chainWalk_of_go {s : State} {remaining idle : Nat} (hfree : s.claims.length < 64)
    (hleft : remaining - visitCount s remaining ≠ 0) (hidle : ¬ (visitCount s remaining = 0 ∧ idle = 3)) (fuel : Nat) :
    chainWalk (fuel + 1) s remaining idle =
      let rest :=
        chainWalk fuel (walkPosition s remaining).1 (remaining - visitCount s remaining)
          (if visitCount s remaining = 0 then idle + 1 else 0)
      (rest.1, (walkPosition s remaining).2 ++ rest.2) :=
  (if_neg (Nat.not_le.2 hfree)).trans (if_neg (not_or.2 ⟨hleft, mt idle_eq_four_iff.1 hidle⟩))

/-- A walk stops by R162 and R163 within four positions for each descriptor that is left of the count, less those already
walked without hand-out: a position without hand-out takes one of them, and one with a hand-out brings the count down. -/
theorem chainWalks_chainWalk (fuel : Nat) (s : State) {remaining idle : Nat} (hcount : 0 < remaining) (hidle : idle ≤ 3)
    (hfuel : 4 * remaining ≤ fuel + idle) :
    ChainWalks s remaining idle (chainWalk fuel s remaining idle).1 (chainWalk fuel s remaining idle).2 := by
  induction fuel generalizing s remaining idle with
  | zero => omega
  | succ fuel ih =>
    rcases Nat.lt_or_ge s.claims.length 64 with hfree | hfull
    · by_cases hstop : remaining - visitCount s remaining = 0 ∨ (visitCount s remaining = 0 ∧ idle = 3)
      · rw [chainWalk_of_stop hfree hstop]
        exact .stop s remaining idle hfree hstop
      · obtain ⟨hleft, hpass⟩ := not_or.1 hstop
        rw [chainWalk_of_go hfree hleft hpass]
        refine .go s _ remaining idle _ hfree hleft hpass (ih _ (Nat.pos_of_ne_zero hleft) ?_ ?_)
        all_goals split <;> omega
    · rw [chainWalk_of_full hfull]
      exact .full s remaining idle hfull

/-- A walk hands out no more descriptors than the count allows (R161). -/
theorem length_le_of_chainWalks {s t : State} {remaining idle : Nat} {l : List ReadRecord}
    (hw : ChainWalks s remaining idle t l) : l.length ≤ remaining := by
  induction hw with
  | full => exact Nat.zero_le _
  | stop s remaining => exact (length_walkPosition_le s remaining).trans (visitCount_le_remaining s remaining)
  | go s t remaining idle l hfree hleft hpass hrest ih =>
    have hposition := length_walkPosition_le s remaining
    rw [List.length_append]
    omega

theorem exec_chainRead {s : State} (hs : s.drainAnswer = none) (count : BitVec 8) :
    exec (.chainRead count) s =
      .next
        { (chainWalk chainFuel s (chainCount count) 0).1 with
          drainAnswer := some (.records ((chainWalk chainFuel s (chainCount count) 0).2 ++ [.endRecord])) } :=
  takeRequest_of_none hs _

/-- Settles O39: the walk that the model runs is one of R162 and R163, for `chainFuel` bounds no walk of at most 128
descriptors (`chainWalks_chainWalk`). -/
theorem chainReadWalksUntilStopped : Obligations.ChainReadWalksUntilStopped := by
  intro s count hs n
  have hn : chainCount count = n := clamp_one (by decide) _
  have hpos : 0 < n := hn ▸ Nat.le_max_left ..
  have hle : n ≤ 128 := hn ▸ max_le (by decide) (Nat.min_le_left ..)
  have hwalk := chainWalks_chainWalk chainFuel s hpos (idle := 0) (by decide) (by unfold chainFuel; omega)
  exact ⟨_, _, hwalk, length_le_of_chainWalks hwalk, hn ▸ exec_chainRead hs count⟩

end Sys2Proof.Machine
end

section
/-! PROOFS. The attention controller (spec/09): the choice of the most urgent class, the fetching of notices, and statements
O29 and O31. -/
namespace Sys2Proof.Machine

/-! ## Eligibility (R171) -/

theorem mem_attentionClasses (d : Fin 8) : d ∈ attentionClasses := by
  revert d
  decide

theorem attentionClasses_rising : attentionClasses.Pairwise (· < ·) := by decide

/-- An eligible class is more urgent than every class in service. -/
theorem priority_lt_of_eligible {s : State} {c d : Fin 8} (hc : classEligible s c = true) (hd : s.inService[d] = true) :
    s.priority[c] < s.priority[d] := by
  rw [classEligible, Bool.and_eq_true, List.all_eq_true] at hc
  have hbelow := hc.2 d (mem_attentionClasses d)
  rwa [hd, Bool.not_true, Bool.false_or, decide_eq_true_eq] at hbelow

/-! ## The most urgent class (R172) -/

theorem mostUrgent_eq_none_iff {p : Vector Nat 8} {l : List (Fin 8)} : mostUrgent p l = none ↔ l = [] := by
  cases l with
  | nil => simp [mostUrgent]
  | cons c l =>
    simp only [mostUrgent, reduceCtorEq, iff_false]
    split
    · exact Option.some_ne_none c
    · split <;> exact Option.some_ne_none _

/-- Class `d` comes no later than class `o`: its priority number is lower, or it is equal and the class number no higher. -/
def NoLessUrgent (p : Vector Nat 8) (d o : Fin 8) : Prop := p[d] < p[o] ∨ (p[d] = p[o] ∧ d ≤ o)

theorem NoLessUrgent.refl (p : Vector Nat 8) (d : Fin 8) : NoLessUrgent p d d := .inr ⟨rfl, le_rfl⟩

theorem NoLessUrgent.trans {p : Vector Nat 8} {c d o : Fin 8} (hcd : NoLessUrgent p c d) (hdo : NoLessUrgent p d o) :
    NoLessUrgent p c o := by
  unfold NoLessUrgent at *
  omega

/-- The classes come in rising number, so the head that wins a tie of priorities has the lowest number. -/
theorem mostUrgent_first {p : Vector Nat 8} {l : List (Fin 8)} (hl : l.Pairwise (· < ·)) {d : Fin 8}
    (hd : mostUrgent p l = some d) : d ∈ l ∧ ∀ o ∈ l, NoLessUrgent p d o := by
  induction l generalizing d with
  | nil => cases hd
  | cons c l ih =>
    obtain ⟨hc, hl⟩ := List.pairwise_cons.1 hl
    rw [mostUrgent] at hd
    split at hd
    next hnone =>
      cases hd
      rw [mostUrgent_eq_none_iff.1 hnone]
      simp [NoLessUrgent.refl]
    next e he =>
      obtain ⟨hmem, hfirst⟩ := ih hl he
      split at hd
      next hle =>
        cases hd
        have hce : NoLessUrgent p c e := hle.lt_or_eq.imp_right fun heq => ⟨heq, (hc e hmem).le⟩
        exact ⟨List.mem_cons_self, List.forall_mem_cons.2 ⟨.refl p c, fun o ho => hce.trans (hfirst o ho)⟩⟩
      next hgt =>
        cases hd
        exact ⟨List.mem_cons_of_mem _ hmem, List.forall_mem_cons.2 ⟨.inl (not_le.1 hgt), hfirst⟩⟩

/-- The class that ACK_ATTENTION takes, when one is eligible. -/
theorem mostUrgent_eligible {s : State} {d : Fin 8}
    (hd : mostUrgent s.priority (attentionClasses.filter (classEligible s)) = some d) :
    classEligible s d = true ∧ ∀ o, classEligible s o = true → NoLessUrgent s.priority d o := by
  obtain ⟨hmem, hfirst⟩ := mostUrgent_first (attentionClasses_rising.filter _) hd
  exact ⟨(List.mem_filter.1 hmem).2, fun o ho => hfirst o (List.mem_filter.2 ⟨mem_attentionClasses o, ho⟩)⟩

/-! ## The class in service and ACK_ATTENTION (R172) -/

/-- The state with class `d` in service. -/
def serve (s : State) (d : Fin 8) : State := { s with inService := s.inService.set d true }

theorem serve_inService (s : State) (d c : Fin 8) : (serve s d).inService[c] = true ↔ c = d ∨ s.inService[c] = true := by
  simp only [serve, Fin.getElem_fin, Vector.getElem_set, Fin.ext_iff, eq_comm (a := c.val)]
  split <;> simp [*]

/-- A class taken while eligible shares its priority with no class in service. -/
theorem eq_of_priority_eq_serve {s : State} {d c : Fin 8} (hd : classEligible s d = true)
    (hc : (serve s d).inService[c] = true) (heq : s.priority[c] = s.priority[d]) : c = d :=
  ((serve_inService s d c).1 hc).resolve_right fun hc => (priority_lt_of_eligible hd hc).ne' heq

theorem classEligible_serve {s : State} {d o : Fin 8} (h : s.priority[d] ≤ s.priority[o]) :
    classEligible (serve s d) o = false := by
  rw [← Bool.not_eq_true]
  intro ho
  exact (priority_lt_of_eligible ho ((serve_inService s d d).2 (.inl rfl))).not_ge h

theorem servicesDistinct_serve {s : State} {d : Fin 8} (hd : classEligible s d = true) (hs : ServicesDistinct s) :
    ServicesDistinct (serve s d) := by
  intro c e hc he heq
  rcases (serve_inService s d c).1 hc with hcd | hc'
  · subst hcd
    exact (eq_of_priority_eq_serve hd he heq.symm).symm
  rcases (serve_inService s d e).1 he with hed | he'
  · subst hed
    exact eq_of_priority_eq_serve hd hc heq
  · exact hs c e hc' he' heq

theorem ackAttention_of_none {s : State}
    (hd : mostUrgent s.priority (attentionClasses.filter (classEligible s)) = none) (args : List Word) :
    ackAttention args s = refuse s .noneEligible := by
  rw [ackAttention, hd]

theorem ackAttention_of_some {s : State} {d : Fin 8}
    (hd : mostUrgent s.priority (attentionClasses.filter (classEligible s)) = some d) (args : List Word) :
    ackAttention args s = accept (serve s d) [word d.val, word s.priority[d]] := by
  rw [ackAttention, hd]
  rfl

theorem exec_ackAttention (s : State) : exec .ackAttention s = takeCommand .ackAttention ackAttention s := rfl

section
variable {s : State} {c : CommandRecord} (hc : Taken .ackAttention s c)
include hc

theorem exec_ackAttention_none (hd : mostUrgent s.priority (attentionClasses.filter (classEligible s)) = none) :
    exec .ackAttention s = .next (answer s c .noneEligible []) := by
  rw [exec_ackAttention, takeCommand_of_taken hc, ackAttention_of_none (s := { s with commands := s.commands.tail }) hd,
    placeResponse_refuse]

theorem exec_ackAttention_some {d : Fin 8}
    (hd : mostUrgent s.priority (attentionClasses.filter (classEligible s)) = some d) :
    exec .ackAttention s = .next (answer (serve s d) c .ok [word d.val, word s.priority[d]]) := by
  rw [exec_ackAttention, takeCommand_of_taken hc, ackAttention_of_some (s := { s with commands := s.commands.tail }) hd]
  exact congrArg _ (placeResponse_accept (t := serve s d) rfl c _)

end

/-- Settles O29: `mostUrgent` finds a class exactly when one is eligible, and it is the first of them by
`mostUrgent_eligible`; being more urgent than every class in service, it keeps the priorities in service distinct. -/
theorem ackTakesMostUrgentClass : Obligations.AckTakesMostUrgentClass := by
  intro s c hc
  cases hd : mostUrgent s.priority (attentionClasses.filter (classEligible s)) with
  | none =>
    have hnone : ∀ d, ¬ classEligible s d = true := fun d =>
      List.filter_eq_nil_iff.1 (mostUrgent_eq_none_iff.1 hd) d (mem_attentionClasses d)
    exact ⟨fun _ => exec_ackAttention_none hc hd, fun ⟨d, h⟩ => absurd h (hnone d)⟩
  | some d =>
    obtain ⟨heligible, hfirst⟩ := mostUrgent_eligible hd
    refine ⟨fun hnone => absurd heligible (by simp [hnone d]), fun _ => ⟨d, heligible, hfirst, serve s d, rfl, ?_⟩⟩
    exact ⟨exec_ackAttention_some hc hd, fun o => classEligible_serve, servicesDistinct_serve heligible⟩

/-! ## The flags of one class (R176 to R178) -/

theorem noticeClass_iff (cls : Nat) : noticeClass cls = true ↔ cls ∈ [0, 1, 2, 5, 7] := by
  simp [noticeClass, or_assoc]

/-- The clearing of one flag leaves the others with their details; a class without a flag has none to clear. -/
theorem noticeOf_clearNotice (n : Notices) (cls other : Nat) :
    noticeOf (clearNotice n cls) other = if other = cls then none else noticeOf n other := by
  unfold clearNotice
  split
  case h_6 =>
    split
    · subst other
      unfold noticeOf
      split <;> simp_all
    · rfl
  all_goals
    unfold noticeOf
    split <;> simp_all

/-! ## Several contexts changed at once -/

theorem tabGet_map {α : Type} (t : Table α) (g : Nat → α → α) (k : Nat) :
    tabGet (t.map fun y => (y.1, g y.1 y.2)) k = (tabGet t k).map (g k) := by
  induction t with
  | nil => rfl
  | cons y t ih =>
    simp only [List.map_cons, tabGet, ih]
    split
    · subst_vars; rfl
    · rfl

theorem tabWf_map {α : Type} {t : Table α} (hw : tabWf t = true) (g : Nat → α → α) :
    tabWf (t.map fun y => (y.1, g y.1 y.2)) = true := by
  rw [tabWf_iff] at *
  exact List.pairwise_map.2 hw

theorem tabWf_nodup {α : Type} {t : Table α} (hw : tabWf t = true) : (t.map (·.1)).Nodup :=
  List.pairwise_map.2 (((tabWf_iff t).1 hw).imp fun h => h.ne)

/-- The contexts with `f` applied to those of the indexes in `l`. -/
def changedAt (f : Context → Context) (l : List Nat) (t : Table Context) : Table Context :=
  t.map fun y => (y.1, if y.1 ∈ l then f y.2 else y.2)

theorem tabGet_changedAt (f : Context → Context) (l : List Nat) (t : Table Context) (k : Nat) :
    tabGet (changedAt f l t) k = if k ∈ l then (tabGet t k).map f else tabGet t k := by
  rw [changedAt, tabGet_map t fun i x => if i ∈ l then f x else x]
  split <;> simp

theorem tabWf_changedAt {t : Table Context} (hw : tabWf t = true) (f : Context → Context) (l : List Nat) :
    tabWf (changedAt f l t) = true :=
  tabWf_map hw fun i x => if i ∈ l then f x else x

theorem tabWf_modCtx {s : State} (hw : tabWf s.contexts = true) (i : Nat) (f : Context → Context) :
    tabWf (modCtx s i f).contexts = true := by
  unfold modCtx
  split
  · exact hw
  · exact tabWf_tabSet hw _ _

theorem modCtx_eq_changedAt {s : State} (hw : tabWf s.contexts = true) (f : Context → Context) (i : Nat) :
    modCtx s i f = { s with contexts := changedAt f [i] s.contexts } := by
  have hctx : (modCtx s i f).contexts = changedAt f [i] s.contexts := by
    refine tab_ext (tabWf_modCtx hw i f) (tabWf_changedAt hw f [i]) fun k => ?_
    rw [tabGet_changedAt]
    refine (ctxOf_modCtx s i k f).trans ?_
    simp only [List.mem_singleton]
    split
    · subst_vars; rfl
    · rfl
  rw [modCtx_eq, hctx]

theorem changedAt_changedAt (f : Context → Context) {i : Nat} {l : List Nat} (hi : i ∉ l) (t : Table Context) :
    changedAt f l (changedAt f [i] t) = changedAt f (i :: l) t := by
  simp only [changedAt, List.map_map]
  refine List.map_congr_left fun y _ => ?_
  by_cases h : y.1 = i <;> simp [h, hi]

theorem foldl_modCtx_eq_changedAt (f : Context → Context) {l : List Nat} (hl : l.Nodup) {s : State}
    (hw : tabWf s.contexts = true) :
    l.foldl (fun u i => modCtx u i f) s = { s with contexts := changedAt f l s.contexts } := by
  induction l generalizing s with
  | nil => simp [changedAt]
  | cons i l ih =>
    obtain ⟨hi, hl⟩ := List.nodup_cons.1 hl
    rw [List.foldl_cons, modCtx_eq_changedAt hw, ih hl (tabWf_changedAt hw f [i]), changedAt_changedAt f hi]

/-- Changing the contexts of some entries of a canonical table changes those entries. -/
theorem changedAt_of_subset {t taken : Table Context} (hw : tabWf t = true) (hsub : taken ⊆ t) (f : Context → Context) :
    changedAt f (taken.map (·.1)) t = t.map fun y => if y ∈ taken then (y.1, f y.2) else y := by
  refine List.map_congr_left fun y hy => ?_
  have hmem : y.1 ∈ taken.map (·.1) ↔ y ∈ taken := by
    refine ⟨fun h => ?_, List.mem_map_of_mem⟩
    obtain ⟨z, hz, heq⟩ := List.mem_map.1 h
    rwa [← List.inj_on_of_nodup_map (tabWf_nodup hw) (hsub hz) hy heq]
  simp only [hmem]
  split <;> rfl

/-! ## FETCH_NOTICES (R178) -/

/-- The state with the flag of class `cls` cleared in the stream contexts of `taken`. -/
def flagsCleared (s : State) (cls : Nat) (taken : Table Context) : State :=
  { s with
    contexts :=
      s.contexts.map fun y => if y ∈ taken then (y.1, { y.2 with notices := clearNotice y.2.notices cls }) else y }

theorem foldl_clearNoticeAt {s : State} (hw : tabWf s.contexts = true) (cls : Nat) {taken : Table Context}
    (hsub : taken.Sublist s.contexts) :
    (taken.map (·.1)).foldl (clearNoticeAt cls) s = flagsCleared s cls taken := by
  have hnodup : (taken.map (·.1)).Nodup := (tabWf_nodup hw).sublist (hsub.map _)
  refine (foldl_modCtx_eq_changedAt _ hnodup hw).trans ?_
  rw [changedAt_of_subset hw hsub.subset]
  rfl

/-- The result words of FETCH_NOTICES for class `cls` (R178, section 12.3). -/
def fetchedWords (s : State) (cls : Nat) (taken : Table Context) : List Word :=
  [word taken.length, word (bitOf (decide (taken.length < (noticed s cls).length)))] ++ taken.flatMap (noticeEntry cls)

theorem fetchNotices_of_noticeClass {s : State} (hw : tabWf s.contexts = true) {args : List Word} {cls : Nat}
    (harg : arg8 args 0 = cls) (hcls : noticeClass cls = true) {taken : Table Context}
    (htaken : (noticed s cls).take (clamp 1 8 (arg8 args 1)) = taken) :
    fetchNotices args s = accept (flagsCleared s cls taken) (fetchedWords s cls taken) := by
  have hsub : taken.Sublist s.contexts := htaken ▸ (List.take_sublist ..).trans List.filter_sublist
  rw [← foldl_clearNoticeAt hw cls hsub]
  subst harg htaken
  have hcond : ¬ (!noticeClass (arg8 args 0)) = true := by simp [hcls]
  exact if_neg hcond

theorem fetchNotices_of_not_noticeClass (s : State) {args : List Word} (hcls : noticeClass (arg8 args 0) = false) :
    fetchNotices args s = refuse s .badArgument :=
  if_pos (by rw [hcls]; rfl)

/-- More entries remain exactly when more contexts than `max` have the flag. -/
theorem fetchedWords_take (s : State) (cls max : Nat) :
    fetchedWords s cls ((noticed s cls).take max) =
      [word ((noticed s cls).take max).length, word (if max < (noticed s cls).length then 1 else 0)] ++
        ((noticed s cls).take max).flatMap (noticeEntry cls) := by
  simp [fetchedWords, bitOf]

theorem exec_fetchNotices (s : State) : exec .fetchNotices s = takeCommand .fetchNotices fetchNotices s := rfl

section
variable {s : State} {c : CommandRecord} (hc : Taken .fetchNotices s c)
include hc

theorem exec_fetchNotices_refused (hcls : noticeClass (arg8 c.args 0) = false) :
    exec .fetchNotices s = .next (answer s c .badArgument []) := by
  rw [exec_fetchNotices, takeCommand_of_taken hc, fetchNotices_of_not_noticeClass _ hcls, placeResponse_refuse]

theorem exec_fetchNotices_answered (hw : tabWf s.contexts = true) {cls max : Nat} (harg : arg8 c.args 0 = cls)
    (hcls : noticeClass cls = true) (hmax : clamp 1 8 (arg8 c.args 1) = max) {taken : Table Context}
    (htaken : (noticed s cls).take max = taken) :
    exec .fetchNotices s = .next (answer (flagsCleared s cls taken) c .ok (fetchedWords s cls taken)) := by
  subst hmax
  rw [exec_fetchNotices, takeCommand_of_taken hc,
    fetchNotices_of_noticeClass (s := { s with commands := s.commands.tail }) hw harg hcls htaken]
  exact congrArg _ (placeResponse_accept (t := flagsCleared s cls taken) rfl c _)

end

/-- Settles O31: the clearings of FETCH_NOTICES, one context after the other, are one pass over the stream table
(`foldl_clearNoticeAt`), and `noticeOf_clearNotice` says which flag each takes. -/
theorem fetchNoticesClearsFlags : Obligations.FetchNoticesClearsFlags := by
  refine ⟨?_, fun n => ⟨⟨rfl, rfl, rfl, rfl, rfl⟩, fun cls _ => ⟨?_, fun other hother => ?_⟩⟩⟩
  · intro s c hc ⟨hw, _⟩ cls max flagged taken
    refine ⟨fun hcls => ?_, fun hcls => ?_⟩
    · exact exec_fetchNotices_refused hc (Bool.eq_false_iff.2 (mt (noticeClass_iff cls).1 hcls))
    · have hmax : clamp 1 8 (arg8 c.args 1) = max := clamp_one (by decide) _
      have htaken : (noticed s cls).take max = taken := rfl
      rw [exec_fetchNotices_answered hc hw rfl ((noticeClass_iff cls).2 hcls) hmax htaken, ← htaken, fetchedWords_take]
      rfl
  · rw [noticeOf_clearNotice, if_pos rfl]
  · rw [noticeOf_clearNotice, if_neg hother]

end Sys2Proof.Machine
end

section
/-! PROOFS. The stream counters (spec/10): the words of their answer, and statement O32. -/
namespace Sys2Proof.Machine

/-! ## The words of the stream counters (R180, section 12.3) -/

theorem mul_bitOf (n : Nat) (b : Bool) : n * bitOf b = if b = true then n else 0 := by
  rw [bitOf, mul_ite, mul_one, mul_zero]

/-- Five flags as a number, each with its weight. -/
theorem flagBits_five (b₀ b₁ b₂ b₃ b₄ : Bool) :
    flagBits [b₀, b₁, b₂, b₃, b₄] =
      (if b₀ = true then 1 else 0) + (if b₁ = true then 2 else 0) + (if b₂ = true then 4 else 0)
        + (if b₃ = true then 8 else 0) + (if b₄ = true then 16 else 0) := by
  simp only [← mul_bitOf, flagBits]
  omega

/-! ## READ_STREAM_COUNTERS (R183) -/

/-- What READ_STREAM_COUNTERS leaves of context `i`, whose value is `x`. -/
def countersRead (s : State) (clear : Bool) (i : Nat) (x : Context) : State :=
  if clear = true then setCtx s i { x with counters := .zero } else s

/-- The taking of the command and the clearing of the counters touch different fields. -/
theorem countersRead_tail (s : State) (clear : Bool) (i : Nat) (x : Context) :
    countersRead { s with commands := s.commands.tail } clear i x =
      { countersRead s clear i x with commands := (countersRead s clear i x).commands.tail } := by
  cases clear <;> rfl

theorem exec_readStreamCounters (s : State) :
    exec .readStreamCounters s = takeCommand .readStreamCounters readStreamCounters s := rfl

section
variable {s : State} {c : CommandRecord} (hc : Taken .readStreamCounters s c)
include hc

theorem exec_readStreamCounters_unmapped (h : lookupTag s (argWord c.args 0) = none) :
    exec .readStreamCounters s = .next (answer s c .unknownStream []) := by
  have hbody : readStreamCounters c.args { s with commands := s.commands.tail } =
      refuse { s with commands := s.commands.tail } .unknownStream := by
    rw [readStreamCounters, lookupTag_commands, h]
  rw [exec_readStreamCounters, takeCommand_of_taken hc, hbody, placeResponse_refuse]

/-- The answer carries the counters of `x`, the context before the clearing. -/
theorem exec_readStreamCounters_mapped {i : Nat} {x : Context} (h : lookupTag s (argWord c.args 0) = some (i, x)) :
    exec .readStreamCounters s =
      .next (answer (countersRead s (argBool c.args 1) i x) c .ok (streamCounterWords x.counters)) := by
  have hbody : readStreamCounters c.args { s with commands := s.commands.tail } =
      accept (countersRead { s with commands := s.commands.tail } (argBool c.args 1) i x)
        (streamCounterWords x.counters) := by
    rw [readStreamCounters, lookupTag_commands, h]
    rfl
  rw [exec_readStreamCounters, takeCommand_of_taken hc, hbody, placeResponse_accept (countersRead_tail ..)]

end

/-- Settles O32: a mapped tag is answered with the counters as they stood (`exec_readStreamCounters_mapped`), and
`flagBits_five` gives the weights of their flags. -/
theorem readCountersAnswersThenClears : Obligations.ReadCountersAnswersThenClears := by
  intro s c hc
  refine ⟨exec_readStreamCounters_unmapped hc, ?_⟩
  intro i x h words
  have hwords : streamCounterWords x.counters = words := by
    rw [streamCounterWords, flagBits_five]
    rfl
  rw [exec_readStreamCounters_mapped hc h, hwords]
  refine ⟨fun hkeep => ?_, fun hclear => ?_⟩
  · rw [hkeep]
    rfl
  · rw [hclear]
    rfl

end Sys2Proof.Machine
end

section
/-! PROOFS. The control port (spec/11, sections 11.1 and 11.3): the freeing of many records at once, the state RESET_ENGINE
makes, and statements O35 and O13. -/
namespace Sys2Proof.Machine

/-! ## The generations after several freeing steps (R60) -/

theorem unlinkExtent_gens (s : State) (slot : Nat) (r : Extent) : (unlinkExtent s slot r).gens = s.gens := by
  unfold unlinkExtent
  split
  · exact modCtx_gens ..
  · exact modCtx_gens ..
  · split <;> rfl
  · rfl

theorem freeExtent_of_unbound {s : State} {slot : Nat} (h : tabGet s.extents slot = none) : freeExtent s slot = s := by
  rw [freeExtent, h]

theorem tabGet_freeExtent (s : State) (slot n : Nat) :
    tabGet (freeExtent s slot).extents n = if n = slot then none else tabGet s.extents n := by
  cases hr : tabGet s.extents slot with
  | none =>
    rw [freeExtent_of_unbound hr]
    split
    · next h => rw [h, hr]
    · rfl
  | some r =>
    rw [freeExtent, hr]
    simp only [modCtx_extents, unlinkExtent_extents, tabGet_tabErase]

theorem genOf_freeExtent (s : State) (slot n : Nat) :
    genOf (freeExtent s slot) n = if n = slot ∧ (tabGet s.extents n).isSome = true then genOf s n + 1 else genOf s n := by
  cases hr : tabGet s.extents slot with
  | none =>
    rw [freeExtent_of_unbound hr, if_neg]
    rintro ⟨rfl, hbound⟩
    simp [hr] at hbound
  | some r =>
    have hgen : genOf (freeExtent s slot) n = if n = slot then genOf s n + 1 else genOf s n := by
      rw [freeExtent, hr]
      refine (getD_bumpGen _ slot n).trans ?_
      simp only [genOf, modCtx_gens, unlinkExtent_gens]
    rw [hgen]
    refine if_congr ⟨?_, And.left⟩ rfl rfl
    rintro rfl
    exact ⟨rfl, by rw [hr]; rfl⟩

/-- A slot freed once is unbound, so a second mention of it in the list changes nothing. -/
theorem genOf_freeExtents (s : State) (slots : List Nat) (n : Nat) :
    genOf (freeExtents s slots) n =
      if n ∈ slots ∧ (tabGet s.extents n).isSome = true then genOf s n + 1 else genOf s n := by
  unfold freeExtents
  induction slots generalizing s with
  | nil => simp
  | cons slot slots ih =>
    rw [List.foldl_cons, ih, genOf_freeExtent, tabGet_freeExtent]
    by_cases hn : n = slot
    · simp [hn]
    · simp [hn]

/-- The freeing of every record: each bound slot is in the list. -/
theorem genOf_freeExtents_all (s : State) (n : Nat) :
    genOf (freeExtents s (s.extents.map (·.1))) n =
      if (tabGet s.extents n).isSome = true then genOf s n + 1 else genOf s n := by
  rw [genOf_freeExtents]
  refine if_congr ⟨And.right, fun hbound => ⟨?_, hbound⟩⟩ rfl rfl
  obtain ⟨r, hr⟩ := Option.isSome_iff_exists.1 hbound
  exact List.mem_map_of_mem (f := (·.1)) (mem_of_tabGet hr)

/-! ## RESET_ENGINE (R194, R195) -/

/-- The state RESET_ENGINE makes of `s`, the generations being `gens`. -/
def engineReset (s : State) (gens : Table (BitVec 8)) : State :=
  { s with
    copy := none
    extents := []
    gens := gens
    ready := Vector.replicate 4 []
    claims := []
    contexts := []
    freeSlots := List.range (slotCount s.extentSize)
    hold := Vector.replicate 4 false
    cursor := { round := 0, queue := 0 }
    inService := Vector.replicate 8 false
    links := Vector.replicate 4 .zero
    overrun := false }

/-- Of the freeing of all records RESET_ENGINE keeps the generations only: it sets the rest of the held work itself. -/
theorem resetEngine_eq (args : List Word) (s : State) :
    resetEngine args s = accept (engineReset s (freeExtents s (s.extents.map (·.1))).gens) [] := by
  unfold resetEngine
  rw [heldWork_freeExtents s (s.extents.map (·.1))]
  rfl

theorem exec_resetEngine (s : State) : exec .resetEngine s = takeCommand .resetEngine resetEngine s := rfl

theorem exec_resetEngine_taken {s : State} {c : CommandRecord} (hc : Taken .resetEngine s c) :
    exec .resetEngine s =
      .next (answer (engineReset s (freeExtents s (s.extents.map (·.1))).gens) c .ok []) := by
  rw [exec_resetEngine, takeCommand_of_taken hc, resetEngine_eq, freeExtents_commands]
  rfl

/-! ## The attention classes after RESET_ENGINE (R169, R195) -/

theorem anyNotice_engineReset (s : State) (gens : Table (BitVec 8)) (cls : Nat) :
    anyNotice (engineReset s gens) cls = false := rfl

theorem freeCount_engineReset (s : State) (gens : Table (BitVec 8)) :
    freeCount (engineReset s gens) = slotCount s.extentSize := List.length_range

/-- No watermark is reached, since none is 0 (R136). -/
theorem atWatermark_engineReset {s : State} (q : Fin 4) (h : 1 ≤ s.params[q].watermark) (gens : Table (BitVec 8)) :
    atWatermark (engineReset s gens) q = false := by
  have hcount : readyCount (engineReset s gens) q = 0 := by
    simp [readyCount, engineReset]
  rw [atWatermark, hcount, decide_eq_false_iff_not]
  exact Nat.not_le.2 h

theorem classPending_engineReset {s : State} (hs : SettingsInRange s) (gens : Table (BitVec 8)) (d : Fin 8) :
    classPending (engineReset s gens) d = true ↔
      (d = 4 ∧ s.lowMark = slotCount s.extentSize) ∨ (d = 6 ∧ s.unread = true) := by
  obtain ⟨hlow, hparams, -⟩ := hs
  have hmark (q : Fin 4) : atWatermark (engineReset s gens) q = false := by
    obtain ⟨-, hpositive, -⟩ := hparams q
    exact atWatermark_engineReset q hpositive gens
  match d with
  | 0 | 1 | 2 | 5 | 7 => simp [classPending, anyNotice_engineReset]
  | 3 => simp [classPending, hmark]
  | 4 =>
    have hpool : classPending (engineReset s gens) 4 = decide (slotCount s.extentSize ≤ s.lowMark) := by
      rw [← freeCount_engineReset s gens]
      rfl
    rw [hpool, decide_eq_true_eq]
    simp only [true_and, Fin.reduceEq, false_and, or_false]
    exact ⟨hlow.antisymm, Eq.ge⟩
  | 6 => simp [classPending, engineReset]

/-- Settles O35: RESET_ENGINE makes `engineReset` of the state, its generations those that the freeing of every record
leaves (`genOf_freeExtents_all`). -/
theorem resetEngineClearsHeldWork : Obligations.ResetEngineClearsHeldWork := by
  intro s c hc _
  exact ⟨_, exec_resetEngine_taken hc, genOf_freeExtents_all s, fun hset => classPending_engineReset hset _, rfl⟩

/-! ## COMMAND_WRITE (R187) -/

theorem exec_commandWrite_queued {s : State} (h : s.commands.length < Config.commandCapacity) (c : CommandRecord) :
    exec (.commandWrite c) s = .next { s with commands := s.commands ++ [c] } := if_pos h

theorem exec_commandWrite_discarded {s : State} (h : Config.commandCapacity ≤ s.commands.length) (c : CommandRecord) :
    exec (.commandWrite c) s = .next { s with overrun := true } := if_neg (Nat.not_lt.2 h)

/-- Settles O13: the two branches of COMMAND_WRITE, the capacity of the command queue being 16. -/
theorem commandWriteQueuesOrOverruns : Obligations.CommandWriteQueuesOrOverruns :=
  ⟨fun c _ h => exec_commandWrite_queued h c, fun c _ h => exec_commandWrite_discarded h c, rfl, rfl⟩

end Sys2Proof.Machine
end

section
/-! PROOFS. Records the part does not know (spec/12, sections 12.1 and 12.3): arrivals of an unknown kind and commands of an
unknown code, statements O5 and O15. -/
namespace Sys2Proof.Machine

/-! ## Arrivals of an unknown kind (R197) -/

/-- A header alone whose kind byte is none of 12.1 passes every test of the decoder and keeps only kind, link and tag. -/
theorem decodeArrival_unknown {h : BitVec 256} (hsegment : recordField h 0 1 ≠ 0x01) (hcheck : recordField h 0 1 ≠ 0x02)
    (htrailer : recordField h 0 1 ≠ 0x03) :
    decodeArrival h [] =
      some (.unknown { kind := recordField h 0 1, link := headerLink h, tag := recordField h 4 4 }) := by
  have hempty : ¬ (!([] : List Byte).isEmpty) = true := by decide
  rw [decodeArrival, if_neg hsegment, if_neg hempty, if_neg hcheck, if_neg htrailer]

/-- The one count that UNKNOWN_KIND makes, in the terms of Safety.lean. -/
theorem countLink_arrivedRefused (s : State) (link : Fin 4) :
    countLink s link (fun k => k.arrival.refusal) = { s with links := s.links.set link (arrivedRefused s link) } := rfl

theorem execUnknownKind_atHead {s : State} {a : UnknownArrival} {rest : List Arrival} (h : AtHead s (.unknown a) rest) :
    execUnknownKind s =
      .next
        { countLink { s with inputQueue := rest } a.link (fun k => k.arrival.refusal) with
          disposition := some { code := .unknownKind, tag := a.tag, newBytes := 0, hole := none } } := by
  obtain ⟨hqueue, hheld⟩ := h
  rw [execUnknownKind, hqueue, hheld]

theorem exec_unknownKind (s : State) : exec .unknownKind s = execUnknownKind s := rfl

/-- Settles O5: the reading is the last branch of the decoder, the taking the one branch of UNKNOWN_KIND that acts. -/
theorem unknownKindAnswered : Obligations.UnknownKindAnswered := by
  refine ⟨fun h hsegment hcheck htrailer => decodeArrival_unknown hsegment hcheck htrailer, fun s a rest h => ?_⟩
  rw [exec_unknownKind, execUnknownKind_atHead h, countLink_arrivedRefused]
  rfl

/-! ## Commands of an unknown code (R198) -/

/-- The command codes of section 12.3. -/
def commandCodes : List Nat :=
  [0x0001, 0x0002, 0x0003, 0x0004, 0x0005, 0x0006, 0x0007, 0x0008, 0x000C, 0x000D, 0x000E, 0x0010, 0x0011, 0x0012,
   0x0013, 0x0018, 0x0019, 0x001A, 0x001B, 0x001C, 0x0020, 0x0021, 0x0022, 0x0030, 0x0031]

/-- Each branch of `commandKind` but the last stands for one code of the table. -/
theorem commandKind_eq_none {code : BitVec 16} (h : code.toNat ∉ commandCodes) : commandKind code = none := by
  unfold commandKind
  split
  case h_26 => rfl
  all_goals
    rename_i hcode
    rw [hcode] at h
    exact absurd (by decide) h

theorem exec_unknownCommand (s : State) : exec .unknownCommand s = execUnknownCommand s := rfl

theorem exec_unknownCommand_taken {s : State} {c : CommandRecord} (hhead : s.commands.head? = some c)
    (hkind : commandKind c.code = none) (hfree : s.responses.length < Config.responseCapacity) :
    exec .unknownCommand s = .next (answer s c .unknownCommand []) := by
  obtain ⟨rest, hqueue⟩ := List.head?_eq_some_iff.1 hhead
  have htail : rest = s.commands.tail := by rw [hqueue, List.tail_cons]
  rw [exec_unknownCommand, execUnknownCommand, hqueue]
  dsimp only
  rw [if_pos ⟨hkind, hfree⟩, htail, placeResponse_refuse]

/-- A command waits for a free entry of the response queue (R188), whatever its code. -/
theorem exec_unknownCommand_waits {s : State} (hfull : Config.responseCapacity ≤ s.responses.length) :
    exec .unknownCommand s = .next s := by
  rw [exec_unknownCommand, execUnknownCommand]
  split
  · rfl
  · exact if_neg fun ⟨_, hfree⟩ => Nat.not_lt.2 hfull hfree

/-- Settles O15: a code outside the table has no kind, and the response queue has 16 entries. -/
theorem unknownCommandAnswered : Obligations.UnknownCommandAnswered := fun _ _ hhead hcode =>
  ⟨exec_unknownCommand_taken hhead (commandKind_eq_none hcode), exec_unknownCommand_waits⟩

end Sys2Proof.Machine
end

section
/-! PROOFS. The steps inside a command (spec/01, 03 and 05): the freeing step, automatic failure handling, the advance of the
retired edge, the DONE evaluation, the seal, the compare and the routing, each as an equation for the next state; statements
O44 to O48. -/
namespace Sys2Proof.Machine

/-! ## The freeing step (R60) -/

theorem unsealed_eq_true_iff (st : ExtentState) : st.unsealed = true ↔ st = .filling ∨ st = .awaitCheck := by
  cases st <;> simp [ExtentState.unsealed]

theorem unsealed_eq_false_iff (st : ExtentState) : st.unsealed = false ↔ st = .ready ∨ st = .claimed := by
  cases st <;> simp [ExtentState.unsealed]

theorem freedContext_eq (x : Context) (r : Extent) :
    freedContext x r =
      { x with
        held := x.held - 1
        window := if r.state = .filling ∨ r.state = .awaitCheck then winSet x r.index .absent else x.window } := by
  simp only [freedContext, unsealed_eq_true_iff]

/-- The freeing step on a record of any state. -/
theorem freeExtent_step {s : State} {slot : Nat} {r : Extent} {x : Context} (hr : tabGet s.extents slot = some r)
    (hx : ctxOf s r.stream = some x) :
    freeExtent s slot =
      { s with
        contexts := tabSet s.contexts r.stream (freedContext x r)
        extents := tabErase s.extents slot
        freeSlots := s.freeSlots ++ [slot]
        gens := bumpGen s slot
        ready :=
          if r.state = .ready then
            s.ready.set x.queue (s.ready[x.queue].filter (fun h => h != handleOf s slot))
          else s.ready
        claims := if r.state = .claimed then s.claims.filter (fun h => h != handleOf s slot) else s.claims } := by
  by_cases hst : r.state = .claimed
  · rw [freeExtent_of_claimed hr hx hst]
    simp [hst, freedContext, ExtentState.unsealed]
  · rw [freeExtent_eq hr hx hst]
    simp [hst]

/-- Settles O44: the freeing step as `freeExtent_step` has it, with the generation read by slot number. -/
theorem freeingStepReturnsSlot : Obligations.FreeingStepReturnsSlot := by
  intro s slot r x hr hx
  refine ⟨fun n => ?_, ?_⟩
  · rw [freeExtent_step hr hx]
    exact getD_bumpGen s slot n
  · rw [freeExtent_step hr hx, freedContext_eq]

/-! ## Automatic failure handling (R11, R12) -/

theorem failStream_of_failed {s : State} {i : Nat} {x : Context} (hx : ctxOf s i = some x)
    (hst : x.state = .failed ∨ x.state = .withdrawing) (cause : Cause) : failStream s i cause = s := by
  rw [failStream, hx]
  exact if_pos hst

/-- The records of other slots than those of a stream's unsealed records are those of other streams and the sealed ones. -/
theorem filter_unsealedRecords {s : State} (hw : tabWf s.extents = true) (i : Nat) :
    s.extents.filter (fun y => y.1 ∉ (unsealedRecords s i).map (·.1)) =
      s.extents.filter (fun y => !(y.2.stream == i && y.2.state.unsealed)) := by
  refine List.filter_congr fun y hy => ?_
  have hmem : y.1 ∈ (unsealedRecords s i).map (·.1) ↔ y.2.stream = i ∧ y.2.state.unsealed = true := by
    rw [List.mem_map]
    constructor
    · rintro ⟨z, hz, hzy⟩
      obtain ⟨hget, hrest⟩ := (mem_unsealedRecords hw).1 hz
      rw [hzy, tabGet_of_mem hw hy] at hget
      exact Option.some.inj hget ▸ hrest
    · exact fun h => ⟨y, (mem_unsealedRecords hw).2 ⟨tabGet_of_mem hw hy, h⟩, rfl⟩
  rw [Bool.eq_iff_iff]
  simp only [decide_eq_true_eq, hmem]
  simp [imp_iff_not_or]

/-- The freeing of a stream's unsealed records leaves its READY ones. -/
theorem slotsOf_ready_isEmpty {s u : State} (i : Nat)
    (hu : u.extents = s.extents.filter (fun y => !(y.2.stream == i && y.2.state.unsealed))) :
    (slotsOf u i (· == .ready)).isEmpty = !((recordsOf s i).any (fun y => y.2.state == .ready)) := by
  have hready (y : Nat × Extent) (hy : y.2.state = .ready) : (!(y.2.stream == i && y.2.state.unsealed)) = true := by
    simp [hy, ExtentState.unsealed]
  rw [Bool.eq_iff_iff]
  simp only [slotsOf, recordsOf, hu, List.isEmpty_iff, List.map_eq_nil_iff, List.filter_eq_nil_iff, List.mem_filter,
    Bool.not_eq_true', List.any_eq_false, beq_iff_eq]
  exact ⟨fun h y hy hst => h y ⟨⟨hy.1, by simp [hst, ExtentState.unsealed]⟩, hy.2⟩ hst,
    fun h y hy hst => h y ⟨hy.1.1, hy.2⟩ hst⟩

theorem tabWf_unlinkExtent {s : State} (hw : tabWf s.contexts = true) (slot : Nat) (r : Extent) :
    tabWf (unlinkExtent s slot r).contexts = true := by
  unfold unlinkExtent
  split
  · exact tabWf_modCtx hw ..
  · exact tabWf_modCtx hw ..
  · split <;> exact hw
  · exact hw

theorem tabWf_freeExtents {s : State} (hw : tabWf s.contexts = true) (slots : List Nat) :
    tabWf (freeExtents s slots).contexts = true := by
  refine List.foldlRecOn slots freeExtent (motive := fun u => tabWf u.contexts = true) hw fun u hu slot _ => ?_
  unfold freeExtent
  split
  · exact hu
  · exact tabWf_modCtx (tabWf_unlinkExtent hu ..) ..

theorem holdIfReady_eq (s : State) (i : Nat) (q : Fin 4) :
    holdIfReady s i q =
      { s with hold := if (slotsOf s i (· == .ready)).isEmpty then s.hold else s.hold.set q true } := by
  unfold holdIfReady
  split <;> rfl

theorem tabWf_failStream {s : State} (hw : tabWf s.contexts = true) (i : Nat) (cause : Cause) :
    tabWf (failStream s i cause).contexts = true := by
  unfold failStream
  split
  · exact hw
  · split
    · exact hw
    · refine tabWf_modCtx ?_ ..
      rw [holdIfReady_eq]
      exact tabWf_freeExtents (tabWf_tabSet hw ..) _

/-- Automatic failure handling of a stream that has not failed, as an equation for the next state. -/
theorem failStream_step {s : State} (hwc : tabWf s.contexts = true) (hw : tabWf s.extents = true) {i : Nat} {x : Context} (hx : ctxOf s i = some x)
    (hst : ¬ (x.state = .failed ∨ x.state = .withdrawing)) (cause : Cause) : ∃ d,
    d = { x with
      state := .failed
      cause := some cause
      held := x.held - (unsealedRecords s i).length
      phase := .off
      notices := { x.notices with failed := some cause }
      window := d.window } ∧
    (∀ k, winGet d k = if (unsealedRecords s i).any (fun y => y.2.index == k) then .absent else winGet x k) ∧
    (∀ n, genOf (failStream s i cause) n =
      if n ∈ (unsealedRecords s i).map (fun y => y.1) then genOf s n + 1 else genOf s n) ∧
    failStream s i cause =
      { s with
        contexts := tabSet s.contexts i d
        extents := s.extents.filter (fun y => !(y.2.stream == i && y.2.state.unsealed))
        freeSlots := s.freeSlots ++ (unsealedRecords s i).map (fun y => y.1)
        gens := (failStream s i cause).gens
        hold :=
          if (recordsOf s i).any (fun y => y.2.state == .ready) then s.hold.set x.queue true else s.hold } := by
  obtain ⟨u, d, hfreed, heq⟩ := failStream_eq hw hx hst cause
  have hext : u.extents = s.extents.filter (fun y => !(y.2.stream == i && y.2.state.unsealed)) :=
    hfreed.extents.trans (filter_unsealedRecords hw i)
  have hready : u.ready = s.ready := hfreed.ready_of_unsealed fun y hy => ((mem_unsealedRecords hw).1 hy).2.2
  have hgen (n : Nat) : genOf (failStream s i cause) n = genOf u n := by rw [heq, holdIfReady_eq]; rfl
  have hctx : (failStream s i cause).contexts = tabSet s.contexts i (failedContext d cause) := by
    refine tab_ext (tabWf_failStream hwc ..) (tabWf_tabSet hwc ..) fun j => ?_
    have hu := hfreed.contexts j
    rw [ctxOf_setCtx] at hu
    rw [heq, holdIfReady_eq, setCtx_contexts, tabGet_tabSet, tabGet_tabSet]
    split
    · rfl
    · rwa [if_neg ‹_›, if_neg ‹_›] at hu
  refine ⟨failedContext d cause, ?_, fun k => ?_, fun n => (hgen n).trans (hfreed.gens n), ?_⟩
  · exact congrArg (fun c => { failedContext c cause with window := d.window }) hfreed.fields
  · have hany : (unsealedRecords s i).any (fun y => y.2.state.unsealed && y.2.index == k) =
        (unsealedRecords s i).any (fun y => y.2.index == k) := by
      rw [Bool.eq_iff_iff, List.any_eq_true, List.any_eq_true]
      exact exists_congr fun y => and_congr_right fun hy => by simp [((mem_unsealedRecords hw).1 hy).2.2]
    exact (hfreed.window k).trans (by rw [hany]; rfl)
  · have hframe : failStream s i cause =
        { s with
          contexts := (failStream s i cause).contexts
          extents := u.extents
          freeSlots := u.freeSlots
          gens := (failStream s i cause).gens
          hold := (failStream s i cause).hold } := by
      rw [heq, holdIfReady_eq, hfreed.frame, ← hready]
      rfl
    have hhold : (failStream s i cause).hold =
        if (recordsOf s i).any (fun y => y.2.state == .ready) then s.hold.set x.queue true else s.hold := by
      have hu : u.hold = s.hold := by rw [hfreed.frame]; rfl
      rw [heq, holdIfReady_eq, setCtx_hold]
      dsimp only
      rw [slotsOf_ready_isEmpty i hext, hu]
      cases (recordsOf s i).any fun y => y.2.state == .ready <;> rfl
    rw [← hctx, ← hext, ← hhold]
    exact hfreed.freeSlots ▸ hframe

/-- Settles O45, by `failStream_step`. -/
theorem failureHandlingFreesUnsealed : Obligations.FailureHandlingFreesUnsealed := by
  intro s i x cause hpool hx
  refine ⟨fun hst => failStream_of_failed hx hst cause, fun hfailed hwithdrawing => ?_⟩
  obtain ⟨d, hd, hwin, hgen, ht⟩ := failStream_step hpool.1.1 hpool.1.2.1 hx (by simp [hfailed, hwithdrawing]) cause
  exact ⟨_, d, rfl, hd, hwin, hgen, ht⟩

/-! ## The advance of the retired edge (R22) -/

theorem sealedRun_le_length (w : List WinPos) : sealedRun w ≤ w.length := by
  induction w with
  | nil => exact le_refl _
  | cons p w ih => cases p <;> simp [sealedRun, ih]

/-- The first positions of a window map are SEALED up to the run's length, and the next one, where there is one, is not. -/
theorem sealedRun_spec (w : List WinPos) :
    (∀ j < sealedRun w, w[j]? = some .sealed) ∧ w[sealedRun w]? ≠ some .sealed := by
  induction w with
  | nil => simp [sealedRun]
  | cons p w ih =>
    cases p with
    | sealed =>
      refine ⟨fun j hj => ?_, by simpa [sealedRun] using ih.2⟩
      cases j with
      | zero => rfl
      | succ j => simpa using ih.1 j (by simpa [sealedRun] using hj)
    | absent => simp [sealedRun]
    | live => simp [sealedRun]

theorem winGet_eq_getElem? (x : Context) (k : Nat) :
    winGet x k = if x.edge ≤ k then (x.window.toList[k - x.edge]?).getD .absent else .absent := by
  unfold winGet
  by_cases hlo : x.edge ≤ k
  · by_cases hhi : k - x.edge < 64
    · simp [hlo, hhi]
    · simp [hlo, hhi]
  · simp [hlo]

/-- A position of a window map shifted down is the position `n` above, or one that entered ABSENT (R22). -/
theorem shiftWindow_getElem? (w : Vector WinPos 64) {n : Nat} (hn : n ≤ 64) (p : Nat) :
    (shiftWindow w n).toList[p]?.getD .absent = w.toList[n + p]?.getD .absent := by
  have hlist : (shiftWindow w n).toList = w.toList.drop n ++ List.replicate n .absent := by
    simp only [shiftWindow, Vector.toList]
    rw [List.take_of_length_le]
    simp
    omega
  rw [hlist, List.getElem?_append]
  split
  · rw [List.getElem?_drop]
  · rename_i h
    have hlen : w.toList.length = 64 := by simp
    rw [List.length_drop, hlen] at h
    rw [List.getElem?_eq_none (l := w.toList) (by omega), List.getElem?_replicate]
    split <;> rfl

theorem winGet_advanceEdge (x : Context) {k : Nat} (hk : (advanceEdge x).edge ≤ k) :
    winGet (advanceEdge x) k = winGet x k := by
  have hrun : sealedRun x.window.toList ≤ 64 := by simpa using sealedRun_le_length x.window.toList
  have hedge : (advanceEdge x).edge = x.edge + sealedRun x.window.toList := rfl
  have hindex : sealedRun x.window.toList + (k - (advanceEdge x).edge) = k - x.edge := by omega
  rw [winGet_eq_getElem?, winGet_eq_getElem?, if_pos hk, if_pos (by omega)]
  exact (shiftWindow_getElem? x.window hrun _).trans (by rw [hindex])

theorem winGet_of_passed (x : Context) {k : Nat} (hlo : x.edge ≤ k) (hhi : k < (advanceEdge x).edge) :
    winGet x k = .sealed := by
  have hlt : k < x.edge + sealedRun x.window.toList := hhi
  rw [winGet_eq_getElem?, if_pos hlo, (sealedRun_spec _).1 _ (by omega)]
  rfl

theorem winGet_advancedEdge_ne_sealed (x : Context) : winGet x (advanceEdge x).edge ≠ .sealed := by
  have hedge : (advanceEdge x).edge = x.edge + sealedRun x.window.toList := rfl
  rw [winGet_eq_getElem?, hedge, if_pos (Nat.le_add_right ..), Nat.add_sub_cancel_left]
  have hnext := (sealedRun_spec x.window.toList).2
  intro h
  cases hp : x.window.toList[sealedRun x.window.toList]? with
  | none => simp [hp] at h
  | some p => simp_all

theorem le_advanceEdge_edge (x : Context) : x.edge ≤ (advanceEdge x).edge := Nat.le_add_right ..

/-- Settles O46, by the length of the run of SEALED positions at the start of the window. -/
theorem edgeAdvancePassesSealed : Obligations.EdgeAdvancePassesSealed := fun x =>
  ⟨le_advanceEdge_edge x, fun _ => winGet_of_passed x, winGet_advancedEdge_ne_sealed x,
    fun _ => winGet_advanceEdge x, rfl⟩

/-! ## The DONE evaluation (R9, R10, R113) -/

theorem enterDone_eq {s : State} {i : Nat} {x : Context} (hx : ctxOf s i = some x) (n : Nat) :
    enterDone s i n =
      setCtx s i { x with state := .done, phase := .off, notices := { x.notices with done := some n } } :=
  modCtx_of_some hx _

theorem evalDone_of_not_ending {s : State} {i : Nat} {x : Context} (hx : ctxOf s i = some x) (hst : x.state ≠ .ending) :
    evalDone s i = s := by
  rw [evalDone, hx]
  cases hstate : x.state <;> simp_all

/-- The DONE evaluation of a stream in ENDING without an expected value. -/
theorem evalDone_of_no_value {s : State} {i l : Nat} {x : Context} (hx : ctxOf s i = some x)
    (hending : x.state = .ending) (hlength : x.length = some l) (hnone : x.expected = none) :
    evalDone s i =
      if x.edge < extentCount (extentBytes s.extentSize) l ∨ x.objectCheck = true then s
      else enterDone s i (extentCount (extentBytes s.extentSize) l) := by
  rw [evalDone, hx]
  simp only [hending, hlength, hnone]
  by_cases hedge : x.edge < extentCount (extentBytes s.extentSize) l <;> simp [hedge]

/-- Settles O48, by whether the stream holds an expected object value. -/
theorem doneEvaluationDecides : Obligations.DoneEvaluationDecides := by
  intro s i x hx
  refine ⟨evalDone_of_not_ending hx, fun l hending hlength => ⟨fun hedge => ?_, fun hedge => ⟨?_, ?_, ?_, ?_⟩⟩⟩
  · cases hv : x.expected with
    | none => rw [evalDone_of_no_value hx hending hlength hv, if_pos (.inl hedge)]
    | some v => rw [evalDone_of_expected hx hending hlength hv, if_pos hedge]
  · intro hnone hcheck
    rw [evalDone_of_no_value hx hending hlength hnone, if_pos (.inr hcheck)]
  · intro hnone hcheck
    rw [evalDone_of_no_value hx hending hlength hnone, if_neg (by simp [hcheck, hedge]), enterDone_eq hx]
  · intro hv
    rw [evalDone_of_expected hx hending hlength hv, if_neg (Nat.not_lt.2 hedge), if_pos rfl, enterDone_eq hx]
  · intro v hv hne
    rw [evalDone_of_expected hx hending hlength hv, if_neg (Nat.not_lt.2 hedge), if_neg hne]

/-! ## The seal, the compare and the routing (R70, R79, R105, R106, R110) -/

/-- The reduced object word offset is the offset modulo M (R92): 2^31 leaves 1. -/
theorem wordOffset_modEq (e k : Nat) : wordOffset e k ≡ k * e / 4 [MOD Config.modulus] := by
  have hsplit : k * e / 4 = (k * e / 4 / 2 ^ 31 + k * e / 4 % 2 ^ 31) + k * e / 4 / 2 ^ 31 * Config.modulus := by
    unfold Config.modulus
    omega
  have hmod : k * e / 4 ≡ k * e / 4 / 2 ^ 31 + k * e / 4 % 2 ^ 31 [MOD Config.modulus] := by
    conv_lhs => rw [hsplit]
    simp [Nat.ModEq]
  refine Nat.ModEq.trans ?_ hmod.symm
  unfold wordOffset
  dsimp only
  split_ifs with h
  · rfl
  · exact (Nat.mod_eq_sub_mod (Nat.not_lt.1 h)).symm

/-- The fold of R91 with the offset reduced as R92 has it. -/
theorem foldPcv_eq (acc p : Pcv) (e k : Nat) :
    foldPcv acc e k p =
      { s := (acc.s + p.s) % Config.modulus
        t := (acc.t + p.t + (k * e / 4) % Config.modulus * p.s) % Config.modulus } := by
  have ht : acc.t + p.t + wordOffset e k * p.s ≡ acc.t + p.t + (k * e / 4) % Config.modulus * p.s [MOD Config.modulus] :=
    Nat.ModEq.add_left _ (Nat.ModEq.mul_right _ ((wordOffset_modEq e k).trans (Nat.mod_modEq ..).symm))
  rw [foldPcv, ht]

/-- The context of a stream after the seal of the extent of record `r` (R22, R91, R106), before the DONE evaluation: the
timer restarts on a stream that runs (R124). -/
def sealedContext (e : Nat) (x : Context) (r : Extent) : Context :=
  { x with
    edge := (advanceEdge { x with window := winSet x r.index .sealed }).edge
    window := (advanceEdge { x with window := winSet x r.index .sealed }).window
    acc := foldPcv x.acc e r.index r.acc
    count := if x.state.running = true then 0 else x.count
    phase := if x.state.running = true then startPhase x.compareA x.compareB else x.phase }

/-- The state after the seal of an extent (R106), before the DONE evaluation. -/
def sealedState (s : State) (slot : Nat) (checked : Bool) (r : Extent) (x : Context) : State :=
  { s with
    extents := tabSet s.extents slot { r with state := .ready, checked := checked }
    ready := s.ready.set x.queue (s.ready[x.queue] ++ [handleOf s slot])
    contexts := tabSet s.contexts r.stream (sealedContext (extentBytes s.extentSize) x r) }

theorem sealExtent_eq {s : State} {slot : Nat} {r : Extent} {x : Context} (hr : tabGet s.extents slot = some r)
    (hx : ctxOf s r.stream = some x) (checked : Bool) :
    sealExtent s slot checked = evalDone (sealedState s slot checked r x) r.stream := by
  rw [sealExtent, hr]
  simp only [hx, restartTimer_setCtx]
  have hrun : (advanceEdge { x with window := winSet x r.index .sealed }).state.running = x.state.running := rfl
  rw [hrun, sealedState, sealedContext]
  split <;> rfl

theorem routeComplete_of_incomplete {s : State} {slot : Nat} {r : Extent} {x : Context}
    (hr : tabGet s.extents slot = some r) (hx : ctxOf s r.stream = some x)
    (h : ¬ (r.state = .filling ∧ complete s x r = true)) : routeComplete s slot = s := by
  rw [routeComplete, hr]
  simp only [hx, if_neg h]

/-- The routing of an extent found complete in FILLING (R70). -/
theorem routeComplete_of_complete {s : State} {slot : Nat} {r : Extent} {x : Context}
    (hr : tabGet s.extents slot = some r) (hx : ctxOf s r.stream = some x)
    (h : r.state = .filling ∧ complete s x r = true) :
    routeComplete s slot =
      if r.expected = none then
        if x.extentCheck = true then setExtent s slot { r with state := .awaitCheck } else sealExtent s slot false
      else (compareExtent s slot).1 := by
  rw [routeComplete, hr]
  simp only [hx, if_pos h]
  cases r.expected <;> simp

theorem compareExtent_of_equal {s : State} {slot : Nat} {r : Extent} (hr : tabGet s.extents slot = some r)
    (hv : r.expected = some r.acc) : compareExtent s slot = (sealExtent s slot true, .sealed) := by
  rw [compareExtent, hr]
  exact if_pos hv

theorem compareExtent_of_unequal {s : State} {slot : Nat} {r : Extent} {x : Context}
    (hr : tabGet s.extents slot = some r) (hx : ctxOf s r.stream = some x) (hv : r.expected ≠ some r.acc) :
    compareExtent s slot =
      if r.retries < x.retryLimit then (extentReset s slot, .retry)
      else (failStream s r.stream .extentCheck, .freed) := by
  rw [compareExtent, hr]
  simp only [if_neg hv, hx]

theorem complete_iff (s : State) (x : Context) (r : Extent) :
    complete s x r = true ↔ r.ranges = [(0, extentLength (extentBytes s.extentSize) x.length r.index)] := by
  simp [complete]

/-- Settles O47, from the equations of the routing, the compare and the seal. -/
theorem completeExtentsAreRoutedAndSealed : Obligations.CompleteExtentsAreRoutedAndSealed := by
  intro s slot r x hr hx
  refine ⟨fun h => ?_, fun hfilling hfull => ⟨?_, ?_, ?_⟩, compareExtent_of_equal hr, ?_, ?_, fun hrun checked => ?_⟩
  · exact routeComplete_of_incomplete hr hx (by rwa [complete_iff])
  · intro hnone hcheck
    rw [routeComplete_of_complete hr hx ⟨hfilling, (complete_iff ..).2 hfull⟩, if_pos hnone, if_pos hcheck]
    rfl
  · intro hnone hcheck
    rw [routeComplete_of_complete hr hx ⟨hfilling, (complete_iff ..).2 hfull⟩, if_pos hnone, if_neg (by simp [hcheck])]
  · intro hv
    rw [routeComplete_of_complete hr hx ⟨hfilling, (complete_iff ..).2 hfull⟩, if_neg hv]
  · intro v hv hne hretry
    rw [compareExtent_of_unequal hr hx (by simpa [hv] using hne), if_pos hretry]
    exact ⟨rfl, extentReset_eq hr hx⟩
  · intro v hv hne hretry
    rw [compareExtent_of_unequal hr hx (by simpa [hv] using hne), if_neg (Nat.not_lt.2 hretry)]
  · have hrunning : x.state.running = true := by rcases hrun with h | h <;> rw [h] <;> rfl
    rw [sealExtent_eq hr hx, sealedState, sealedContext, foldPcv_eq, if_pos hrunning, if_pos hrunning]

end Sys2Proof.Machine
end

section
/-! PROOFS. The moves of the held work: the elementary changes of contexts, records, free-slot list, generations, ready queues
and claim table of which every command is made, and for each what it is allowed to do. An invariant that every move keeps is
kept by every command. -/
namespace Sys2Proof.Machine

/-! ## Contexts, records and what they keep -/

/-- The accumulators and the expected value of a context are reduced (R88, R95). -/
def CtxReduced (c : Context) : Prop := Reduced c.acc ∧ ∀ v ∈ c.expected, Reduced v

/-- The accumulators and the expected value of a record are reduced (R88, R95). -/
def RecReduced (r : Extent) : Prop := Reduced r.acc ∧ ∀ v ∈ r.expected, Reduced v

/-- Context `d` keeps the values of context `c` in their ranges: its settings, counters, timer and check values. -/
structure ValuesKept (c d : Context) : Prop where
  settings : d.group = c.group ∧ d.retryLimit = c.retryLimit
  counters : StreamCountersTrue c.counters → StreamCountersTrue d.counters
  timer : TimerTrue c → TimerTrue d
  reduced : CtxReduced c → CtxReduced d

/-- Context `d` has the tag, the queue, the window and the held count of context `c`. -/
structure PlaceKept (c d : Context) : Prop where
  tag : d.tag = c.tag
  queue : d.queue = c.queue
  edge : d.edge = c.edge
  window : d.window = c.window
  held : d.held = c.held

/-- Context `c` of stream `i` is as its state and its L require (section 1.2). -/
abbrev StreamTrue (s : State) (i : Nat) (c : Context) : Prop := StateTrue s i c ∧ LengthTrue s i c

/-- Every unsealed record stands at a LIVE position, and no extent has two of them: the part of `WindowsTrue` that the drain
port cannot break. -/
structure UnsealedLive (s : State) : Prop where
  live : ∀ x ∈ s.extents, x.2.state.unsealed = true → ∀ c ∈ ctxOf s x.2.stream, winGet c x.2.index = .live
  unique : ∀ x ∈ s.extents, ∀ y ∈ s.extents, x.2.state.unsealed = true → y.2.state.unsealed = true →
    x.2.stream = y.2.stream → x.2.index = y.2.index → x.1 = y.1

/-! ## The moves -/

/-- The settings of the engine lie in their ranges: the part of `SettingsInRange` that speaks of no stream. -/
abbrev EngineSettings (s : State) : Prop :=
  s.lowMark ≤ slotCount s.extentSize ∧
  (∀ q : Fin 4, s.params[q].weight ≤ 127 ∧ 1 ≤ s.params[q].watermark ∧ s.params[q].watermark ≤ 4096) ∧
  (1 ≤ s.storeLimit ∧ s.storeLimit ≤ 7) ∧ (∀ c : Fin 8, s.priority[c] ≤ 7) ∧ s.threshold ≤ 7

/-- The registers of state `t` beside the held work are in their ranges and forms where those of `s` are. -/
structure GlobalsKept (s t : State) : Prop where
  links : (∀ l : Fin 4, LinkCountersTrue s.links[l]) → ∀ l : Fin 4, LinkCountersTrue t.links[l]
  services : ServicesDistinct s → ServicesDistinct t
  settings : EngineSettings s → EngineSettings t
  defaults : s.defaultA ≤ 65535 ∧ s.defaultB ≤ 65535 → t.defaultA ≤ 65535 ∧ t.defaultB ≤ 65535
  queues : QueuesBounded s → QueuesBounded t
  mem : memWf s.mem = true → memWf t.mem = true

theorem GlobalsKept.refl (s : State) : GlobalsKept s s := ⟨id, id, id, id, id, id⟩

theorem HeldWork.globalsKept {s t : State} (h : HeldWork s t) : GlobalsKept s t := by
  refine ⟨?_, ?_, ?_, ?_, ?_, ?_⟩
  · rw [h.links]; exact id
  · rw [ServicesDistinct, ServicesDistinct, h.inService, h.priority]; exact id
  · rw [EngineSettings, EngineSettings, h.lowMark, h.extentSize, h.params, h.storeLimit, h.priority, h.threshold]
    exact id
  · rw [h.defaultA, h.defaultB]; exact id
  · rw [QueuesBounded, QueuesBounded, h.inputQueue, h.commands, h.responses]; exact id
  · rw [h.mem]; exact id

/-- State `t` has the port queues of `s`, and the model's own queue. -/
structure PortsKept (s t : State) : Prop where
  inputQueue : t.inputQueue = s.inputQueue
  commands : t.commands = s.commands
  responses : t.responses = s.responses
  pending : t.pending = s.pending

theorem PortsKept.refl (s : State) : PortsKept s s := ⟨rfl, rfl, rfl, rfl⟩

theorem PortsKept.trans {s t u : State} (h : PortsKept s t) (k : PortsKept t u) : PortsKept s u :=
  ⟨k.inputQueue.trans h.inputQueue, k.commands.trans h.commands, k.responses.trans h.responses,
    k.pending.trans h.pending⟩

theorem HeldWork.portsKept {s t : State} (h : HeldWork s t) : PortsKept s t :=
  ⟨h.inputQueue, h.commands, h.responses, h.pending⟩

/-- State `t` holds the same work as `s`, its other registers being kept in their ranges. -/
structure SameWork (s t : State) : Prop where
  extentSize : t.extentSize = s.extentSize
  contexts : t.contexts = s.contexts
  extents : t.extents = s.extents
  freeSlots : t.freeSlots = s.freeSlots
  gens : t.gens = s.gens
  ready : t.ready = s.ready
  claims : t.claims = s.claims
  globals : GlobalsKept s t

/-- Record `q` may stand in the place of record `r` in state `s`. -/
structure RecordKept (s : State) (r q : Extent) : Prop where
  stream : q.stream = r.stream
  index : q.index = r.index
  state : q.state = r.state ∨ (r.state.unsealed = true ∧ q.state.unsealed = true)
  settings : SettingsInRange s → q.retries ≤ 7 ∧ q.storeAttempts ≤ 6
  reduced : RecReduced r → RecReduced q

/-- A record may be created for extent `k` of stream `i` with context `c` (R42, R47, R58). -/
structure CreateAllowed (s : State) (i : Nat) (c : Context) (k : Nat) : Prop where
  running : c.state.running = true
  lower : c.edge ≤ k
  upper : k < c.edge + Config.windowSize
  notSealed : winGet c k ≠ .sealed
  unbound : winGet c k = .live → unsealedRecord s i k = none
  below : ∀ l ∈ c.length, k < extentCount (extentBytes s.extentSize) l

/-- State `t` is `s` after the records `rs` of stream `i` were dropped (R60), its context `c` becoming `d`. -/
structure Dropped (s t : State) (i : Nat) (c d : Context) (rs : List (Nat × Extent)) : Prop where
  context : ctxOf s i = some c
  records : ∀ y ∈ rs, tabGet s.extents y.1 = some y.2 ∧ y.2.stream = i
  nodup : (rs.map (·.1)).Nodup
  frame : HeldWork s t
  extentSize : t.extentSize = s.extentSize
  contexts : t.contexts = tabSet s.contexts i d
  extents : t.extents = s.extents.filter (fun y => y.1 ∉ rs.map (·.1))
  freeSlots : t.freeSlots = s.freeSlots ++ rs.map (·.1)
  gens : ∀ n, n ∉ rs.map (·.1) → genOf t n = genOf s n
  readySub : ∀ q : Fin 4, t.ready[q].Sublist s.ready[q]
  readyKeep : ∀ q : Fin 4, ∀ h ∈ s.ready[q], h.slot ∉ rs.map (·.1) → h ∈ t.ready[q]
  readyGone : ∀ y ∈ rs, y.2.state = .ready → handleOf s y.1 ∉ t.ready[c.queue]
  claimsSub : t.claims.Sublist s.claims
  claimsKeep : ∀ h ∈ s.claims, h.slot ∉ rs.map (·.1) → h ∈ t.claims
  claimsGone : ∀ y ∈ rs, y.2.state = .claimed → handleOf s y.1 ∉ t.claims
  tag : d.tag = c.tag
  queue : d.queue = c.queue
  edge : d.edge = c.edge
  held : d.held = c.held - rs.length
  window : ∀ k, winGet d k = if rs.any (fun y => y.2.state.unsealed && y.2.index == k) then .absent else winGet c k

/-- A context as OPEN_STREAM sets it up (R7, R8), before the DONE evaluation. -/
structure FreshContext (s : State) (d : Context) : Prop where
  state : (d.state = .opened ∧ d.length = none) ∨ (d.state = .ending ∧ ∃ l ≤ Config.maxObject, d.length = some l)
  cause : d.cause = none
  edge : d.edge = 0
  window : d.window = Vector.replicate 64 .absent
  held : d.held = 0
  settings : d.group ≤ 15 ∧ d.retryLimit ≤ 7
  counters : d.counters = .zero
  timer : TimersTrue s → TimerTrue d
  reduced : CtxReduced d

/-- A state that holds no work, every slot being free. -/
structure ClearedWork (t : State) : Prop where
  contexts : t.contexts = []
  extents : t.extents = []
  freeSlots : t.freeSlots = List.range (slotCount t.extentSize)
  ready : ∀ q : Fin 4, t.ready[q] = []
  claims : t.claims = []

/-- One elementary change of the held work. -/
inductive Move : State → State → Prop where
  /-- What changes is no held work. -/
  | same {s t : State} : SameWork s t → Move s t
  /-- One context changes, but for its tag, queue, window and held count. -/
  | context {s : State} {i : Nat} {c d : Context} : ctxOf s i = some c → PlaceKept c d → ValuesKept c d →
      (UnsealedLive s → StreamTrue s i c → StreamTrue s i d) → Move s (setCtx s i d)
  /-- One record changes, but for its stream and its index; an unsealed one stays unsealed. -/
  | record {s : State} {slot : Nat} {r q : Extent} : tabGet s.extents slot = some r → RecordKept s r q →
      Move s (setExtent s slot q)
  /-- A record is created (R58). -/
  | create {s : State} {i k : Nat} {c : Context} {v : Option Pcv} : ctxOf s i = some c → CreateAllowed s i c k →
      (∀ w ∈ v, Reduced w) → Move s (createExtent s i k v)
  /-- An extent seals (R106). -/
  | seals {s : State} {slot : Nat} {r : Extent} {c : Context} (checked : Bool) : tabGet s.extents slot = some r →
      ctxOf s r.stream = some c → r.state.unsealed = true → Move s (sealedState s slot checked r c)
  /-- Records of one stream are dropped (R11, R14, R60). -/
  | drop {s t : State} {i : Nat} {c d : Context} {rs : List (Nat × Extent)} : Dropped s t i c d rs → ValuesKept c d →
      (StreamTrue s i c → StreamTrue t i d) → Move s t
  /-- The head of a ready queue is handed out (R143). -/
  | handOut {s : State} {q : Fin 4} {h : Handle} {rest : List Handle} : s.ready[q] = h :: rest →
      s.claims.length < Config.claimCapacity → Move s (handOut s q h rest)
  /-- A claimed record is requeued (R150). -/
  | requeue {s : State} {h : Handle} {r : Extent} {c : Context} : judgeHandle s h = .ok (r, c) → c.state ≠ .withdrawing →
      r.storeAttempts + 1 < s.storeLimit → Move s (requeueExtent s h r c.queue)
  /-- A FREE context is opened (R7). -/
  | opens {s : State} {i : Nat} {d : Context} : i < Config.contextCount → ctxOf s i = none → lookupTag s d.tag = none →
      FreshContext s d → Move s (setCtx s i d)
  /-- A context without records is closed (R17). -/
  | close {s : State} {i : Nat} {c : Context} : ctxOf s i = some c → c.held = 0 →
      Move s { s with contexts := tabErase s.contexts i }
  /-- The pool is configured (R55). -/
  | configure {s : State} (z : ExtentSize) (low : Nat) : s.contexts = [] → s.claims = [] → low ≤ slotCount z →
      Move s (configuredPool s z low)
  /-- The held work is cleared (R62, R194). -/
  | clear {s t : State} : ClearedWork t → GlobalsKept s t → Move s t

/-! ## Canonical tables under a move -/

/-- The stream table and the extent table are in canonical form. -/
structure TablesWf (s : State) : Prop where
  contexts : tabWf s.contexts = true
  extents : tabWf s.extents = true

theorem TablesCanonical.tablesWf {s : State} (h : TablesCanonical s) : TablesWf s := ⟨h.1, h.2.1⟩

theorem tabWf_filter {α : Type} {t : Table α} (hw : tabWf t = true) (p : Nat × α → Bool) : tabWf (t.filter p) = true := by
  rw [tabWf_iff] at hw ⊢
  exact hw.sublist List.filter_sublist

theorem tabWf_claimExtent {s : State} (hw : tabWf s.extents = true) (slot : Nat) :
    tabWf (claimExtent s slot) = true := by
  unfold claimExtent
  split
  · exact hw
  · exact tabWf_tabSet hw ..

theorem tablesWf_createExtent {s : State} (hs : TablesWf s) (i k : Nat) (v : Option Pcv) :
    TablesWf (createExtent s i k v) := by
  unfold createExtent
  split
  · exact hs
  · rename_i slot rest _
    exact ⟨tabWf_modCtx (s := setExtent { s with freeSlots := rest } slot (newExtent i k v)) hs.contexts _ _,
      by simpa using tabWf_tabSet hs.extents ..⟩

theorem Move.tablesWf {s t : State} (h : Move s t) (hs : TablesWf s) : TablesWf t := by
  cases h with
  | same h => exact ⟨h.contexts ▸ hs.contexts, h.extents ▸ hs.extents⟩
  | context => exact ⟨tabWf_tabSet hs.contexts .., hs.extents⟩
  | record => exact ⟨hs.contexts, tabWf_tabSet hs.extents ..⟩
  | create => exact tablesWf_createExtent hs ..
  | seals => exact ⟨tabWf_tabSet hs.contexts .., tabWf_tabSet hs.extents ..⟩
  | drop h => exact ⟨h.contexts ▸ tabWf_tabSet hs.contexts .., h.extents ▸ tabWf_filter hs.extents _⟩
  | handOut => exact ⟨hs.contexts, tabWf_claimExtent hs.extents _⟩
  | requeue => exact ⟨hs.contexts, tabWf_tabSet hs.extents ..⟩
  | opens => exact ⟨tabWf_tabSet hs.contexts .., hs.extents⟩
  | close => exact ⟨tabWf_tabErase hs.contexts _, hs.extents⟩
  | configure => exact ⟨hs.contexts, hs.extents⟩
  | clear h => exact ⟨by rw [h.contexts]; rfl, by rw [h.extents]; rfl⟩

/-! ## Chains of moves -/

/-- From canonical tables, state `t` is reached from state `s` by moves, the queues of the ports being left alone. -/
structure Works (s t : State) : Prop where
  chain : TablesWf s → Relation.ReflTransGen Move s t
  ports : PortsKept s t

/-- What every move keeps is kept by a chain of moves. -/
theorem reflTransGen_induct {P : State → Prop} {s t : State} (h : Relation.ReflTransGen Move s t) (hw : TablesWf s)
    (hstep : ∀ u v, TablesWf u → P u → Move u v → P v) (hs : P s) : TablesWf t ∧ P t := by
  refine Relation.ReflTransGen.head_induction_on (motive := fun u _ => TablesWf u ∧ P u → TablesWf t ∧ P t) h
    id (fun hmove _ ih hu => ih ⟨hmove.tablesWf hu.1, hstep _ _ hu.1 hu.2 hmove⟩) ⟨hw, hs⟩

theorem tablesWf_of_reflTransGen {s t : State} (h : Relation.ReflTransGen Move s t) (hw : TablesWf s) : TablesWf t :=
  (reflTransGen_induct (P := fun _ => True) h hw (fun _ _ _ _ _ => trivial) trivial).1

theorem Works.refl (s : State) : Works s s := ⟨fun _ => .refl, .refl s⟩

theorem Works.trans {s t u : State} (h : Works s t) (k : Works t u) : Works s u :=
  ⟨fun hw => (h.chain hw).trans (k.chain (tablesWf_of_reflTransGen (h.chain hw) hw)), h.ports.trans k.ports⟩

theorem Move.works {s t : State} (h : Move s t) (hports : PortsKept s t) : Works s t := ⟨fun _ => .single h, hports⟩

theorem works_context {s : State} {i : Nat} {c d : Context} (hc : ctxOf s i = some c) (hplace : PlaceKept c d)
    (hvalues : ValuesKept c d) (hstream : UnsealedLive s → StreamTrue s i c → StreamTrue s i d) :
    Works s (setCtx s i d) :=
  (Move.context hc hplace hvalues hstream).works ⟨rfl, rfl, rfl, rfl⟩

theorem works_record {s : State} {slot : Nat} {r q : Extent} (hr : tabGet s.extents slot = some r)
    (hkept : RecordKept s r q) : Works s (setExtent s slot q) :=
  (Move.record hr hkept).works ⟨rfl, rfl, rfl, rfl⟩

theorem works_drop {s t : State} {i : Nat} {c d : Context} {rs : List (Nat × Extent)} (hdrop : Dropped s t i c d rs)
    (hvalues : ValuesKept c d) (hstream : StreamTrue s i c → StreamTrue t i d) : Works s t :=
  (Move.drop hdrop hvalues hstream).works hdrop.frame.portsKept

/-- A change that leaves the held work and the queues of the ports alone. -/
theorem works_same {s t : State} (h : SameWork s t) (hports : PortsKept s t) : Works s t := (Move.same h).works hports

theorem Works.foldl {α : Type} (f : State → α → State) (hf : ∀ s a, Works s (f s a)) (l : List α) (s : State) :
    Works s (l.foldl f s) := by
  induction l generalizing s with
  | nil => exact .refl s
  | cons a l ih => exact (hf s a).trans (ih _)

/-! ## Rows -/

/-- From canonical tables, state `t` is reached from state `s` by moves, the model's own queue being left alone. -/
structure Steps (s t : State) : Prop where
  chain : TablesWf s → Relation.ReflTransGen Move s t
  pending : t.pending = s.pending

theorem Works.steps {s t : State} (h : Works s t) : Steps s t := ⟨h.chain, h.ports.pending⟩

theorem Steps.refl (s : State) : Steps s s := (Works.refl s).steps

theorem Steps.trans {s t u : State} (h : Steps s t) (k : Steps t u) : Steps s u :=
  ⟨fun hw => (h.chain hw).trans (k.chain (tablesWf_of_reflTransGen (h.chain hw) hw)), k.pending.trans h.pending⟩

/-- A change that leaves the held work alone. -/
theorem steps_same {s t : State} (h : SameWork s t) (hpending : t.pending = s.pending) : Steps s t :=
  ⟨fun _ => .single (.same h), hpending⟩

/-- Every state that a row answers is reached by moves. -/
def OutcomeSteps (s : State) (o : Host.Outcome State Fault Refusal) : Prop := ∀ t, o = .next t → Steps s t

theorem outcomeSteps_next {s t : State} (h : Steps s t) : OutcomeSteps s (.next t) := fun _ ht => by cases ht; exact h

theorem outcomeSteps_self (s : State) : OutcomeSteps s (.next s) := outcomeSteps_next (.refl s)

theorem OutcomeSteps.after {s t : State} {o : Host.Outcome State Fault Refusal} (hst : Steps s t) (h : OutcomeSteps t o) :
    OutcomeSteps s o := fun u hu => hst.trans (h u hu)

end Sys2Proof.Machine
end

section
/-! PROOFS. The shared operations of Ops.lean as chains of moves: the timer, allocation, the freeing of records, failure
handling, DONE, the seal, the compare and the routing, the learning of L and the abort. -/
namespace Sys2Proof.Machine

/-! ## Changes of one context that its state does not see -/

/-- Context `d` differs from context `c` in nothing that its place, its state or its L speaks of. -/
structure Quiet (c d : Context) : Prop where
  place : PlaceKept c d
  state : d.state = c.state
  cause : d.cause = c.cause
  length : d.length = c.length
  phase : d.phase = c.phase ∨ c.state.running = true

theorem Quiet.streamTrue {c d : Context} (h : Quiet c d) {s : State} {i : Nat} (hc : StreamTrue s i c) :
    StreamTrue s i d := by
  obtain ⟨hstate, hlength⟩ := hc
  refine ⟨?_, ?_⟩
  · unfold StateTrue at hstate ⊢
    rw [h.state, h.length, h.cause]
    rcases h.phase with hphase | hrun
    · rwa [hphase]
    · cases hst : c.state <;> simp_all [StreamState.running]
  · unfold LengthTrue at hlength ⊢
    rwa [h.length, h.place.edge, h.place.window, h.state]

theorem works_setCtx {s : State} {i : Nat} {c d : Context} (hc : ctxOf s i = some c) (hquiet : Quiet c d)
    (hvalues : ValuesKept c d) : Works s (setCtx s i d) :=
  works_context hc hquiet.place hvalues fun _ h => hquiet.streamTrue h

theorem works_modCtx {s : State} {i : Nat} {f : Context → Context} (hquiet : ∀ c, Quiet c (f c))
    (hvalues : ∀ c, ValuesKept c (f c)) : Works s (modCtx s i f) := by
  cases hc : ctxOf s i with
  | none => rw [modCtx_of_none hc]; exact .refl s
  | some c => rw [modCtx_of_some hc]; exact works_setCtx hc (hquiet c) (hvalues c)

theorem ValuesKept.refl (c : Context) : ValuesKept c c := ⟨⟨rfl, rfl⟩, id, id, id⟩

theorem ValuesKept.trans {c d e : Context} (h : ValuesKept c d) (k : ValuesKept d e) : ValuesKept c e :=
  ⟨⟨k.settings.1.trans h.settings.1, k.settings.2.trans h.settings.2⟩, k.counters ∘ h.counters, k.timer ∘ h.timer,
    k.reduced ∘ h.reduced⟩

/-- A context with the settings, the counters, the timer and the check values of another keeps its values. -/
theorem valuesKept_of_eq {c d : Context} (hsettings : d.group = c.group ∧ d.retryLimit = c.retryLimit)
    (hcounters : d.counters = c.counters)
    (htimer : d.compareA = c.compareA ∧ d.compareB = c.compareB ∧ d.count = c.count)
    (hphase : d.phase = .off ∨ (d.phase = c.phase ∧ d.state = c.state)) (hacc : d.acc = c.acc)
    (hexpected : d.expected = c.expected) : ValuesKept c d := by
  refine ⟨hsettings, fun h => hcounters ▸ h, fun h => ?_, fun h => ?_⟩
  · obtain ⟨ha, hb, hcount⟩ := htimer
    unfold TimerTrue at h ⊢
    rw [ha, hb, hcount]
    rcases hphase with hoff | ⟨hphase, hstate⟩
    · simp_all
    · rwa [hphase, hstate]
  · unfold CtxReduced at h ⊢
    rwa [hacc, hexpected]

/-- The timer restarts at a count below the compare of its starting phase (R122). -/
theorem timerTrue_startTimer {c : Context} (ha : c.compareA ≤ 65535) (hb : c.compareB ≤ 65535)
    (hrun : c.state.running = true) : TimerTrue (startTimer c) := by
  refine ⟨ha, hb, Nat.zero_le _, fun h => ?_, fun h => ?_, fun h => ?_⟩
  · simp only [startTimer, startPhase] at h ⊢
    split at h
    · assumption
    · split at h <;> cases h
  · simp only [startTimer, startPhase] at h ⊢
    split at h
    · cases h
    · split at h
      · assumption
      · cases h
  · exact absurd (hrun.symm.trans h) (by decide)

theorem quiet_startTimer {c : Context} (hrun : c.state.running = true) : Quiet c (startTimer c) :=
  ⟨⟨rfl, rfl, rfl, rfl, rfl⟩, rfl, rfl, rfl, .inr hrun⟩

theorem valuesKept_startTimer {c : Context} (hrun : c.state.running = true) : ValuesKept c (startTimer c) :=
  ⟨⟨rfl, rfl⟩, id, fun h => timerTrue_startTimer h.1 h.2.1 hrun, id⟩

theorem quiet_refl (c : Context) : Quiet c c := ⟨⟨rfl, rfl, rfl, rfl, rfl⟩, rfl, rfl, rfl, .inl rfl⟩

theorem works_restartTimer (s : State) (i : Nat) : Works s (restartTimer s i) := by
  refine works_modCtx (fun c => ?_) fun c => ?_
  · split
    · exact quiet_startTimer ‹_›
    · exact quiet_refl c
  · split
    · exact valuesKept_startTimer ‹_›
    · exact .refl c

/-! ## Counters (R182) -/

theorem counterTrue_add {max : Nat} {k : Counter} (h : CounterTrue max k) (n : Nat) : CounterTrue max (k.add max n) := by
  obtain ⟨hle, hsat⟩ := h
  rcases counter_add_cases max k n with ⟨-, heq⟩ | ⟨hn, hlt, heq⟩ | ⟨-, -, heq⟩
  · rw [heq]
    exact ⟨hle, hsat⟩
  · rw [heq]
    refine ⟨hlt.le, fun h => ?_, fun h => ?_⟩
    · have := hsat.1 h
      omega
    · simp only at h
      omega
  · rw [heq]
    exact ⟨le_refl _, fun _ => rfl, fun _ => rfl⟩

theorem counterTrue_zero {max : Nat} (h : 0 < max) : CounterTrue max .zero :=
  ⟨Nat.zero_le _, by simp [Counter.zero], fun h' => absurd h' h.ne⟩

theorem streamCountersTrue_zero : StreamCountersTrue .zero :=
  ⟨counterTrue_zero (by decide), counterTrue_zero (by decide), counterTrue_zero (by decide),
    counterTrue_zero (by decide), counterTrue_zero (by decide)⟩

/-! ## Allocation (R58) -/

theorem works_createExtent {s : State} {i k : Nat} {c : Context} {v : Option Pcv} (hc : ctxOf s i = some c)
    (hallowed : CreateAllowed s i c k) (hv : ∀ w ∈ v, Reduced w) : Works s (createExtent s i k v) :=
  (Move.create hc hallowed hv).works (heldWork_createExtent ..).portsKept

/-! ## Dropped records (R11, R14, R60) -/

theorem winGet_add (c : Context) (p : Fin 64) : winGet c (c.edge + p.val) = c.window[p] := by
  have h : c.edge ≤ c.edge + p.val ∧ c.edge + p.val - c.edge < 64 := ⟨Nat.le_add_right .., by omega⟩
  rw [winGet, dif_pos h]
  simp

theorem Dropped.recordsOf_subset {s t : State} {i : Nat} {c d : Context} {rs : List (Nat × Extent)}
    (h : Dropped s t i c d rs) (j : Nat) : ∀ y ∈ recordsOf t j, y ∈ recordsOf s j ∧ y.1 ∉ rs.map (·.1) := by
  intro y hy
  rw [recordsOf, h.extents, List.filter_filter, List.mem_filter] at hy
  simp only [Bool.and_eq_true, decide_eq_true_eq] at hy
  exact ⟨List.mem_filter.2 ⟨hy.1, hy.2.1⟩, hy.2.2⟩

theorem Dropped.lengthTrue {s t : State} {i : Nat} {c d : Context} {rs : List (Nat × Extent)}
    (h : Dropped s t i c d rs) (hlength : d.length = c.length) (hdone : d.state = .done → c.state = .done)
    (hc : LengthTrue s i c) : LengthTrue t i d := by
  intro l hl
  obtain ⟨hmax, hedge, hsealed, hrecords, hend⟩ := hc l (hlength ▸ hl)
  rw [h.extentSize, h.edge]
  refine ⟨hmax, hedge, fun p hp => hsealed p ?_, fun x hx => hrecords x (h.recordsOf_subset i x hx).1,
    fun hd => hend (hdone hd)⟩
  have hwin := h.window (d.edge + p.val)
  rw [winGet_add, hp, h.edge, winGet_add] at hwin
  split at hwin
  · cases hwin
  · exact hwin.symm

/-- The freeing step drops one record (R60). -/
theorem dropped_freeExtent {s : State} {slot : Nat} {r : Extent} {c : Context} (hr : tabGet s.extents slot = some r)
    (hc : ctxOf s r.stream = some c) :
    Dropped s (freeExtent s slot) r.stream c (freedContext c r) [(slot, r)] := by
  have hframe := heldWork_freeExtent s slot
  rw [freeExtent_step hr hc] at hframe ⊢
  have hready (q : Fin 4) := getElem_ready_set s.ready c.queue q (r.state = .ready) (handleOf s slot)
  exact {
    context := hc
    records := by simpa using hr
    nodup := by simp
    frame := hframe
    extentSize := rfl
    contexts := rfl
    extents := by
      simp only [tabErase_eq_filter, List.map_cons, List.map_nil, List.mem_singleton]
      exact List.filter_congr fun y _ => by simp [bne, beq_eq_decide]
    freeSlots := rfl
    gens := fun n hn => (getD_bumpGen s slot n).trans (if_neg (by simpa using hn))
    readySub := fun q => by
      refine (hready q).symm ▸ ?_
      split
      · exact List.filter_sublist
      · exact List.Sublist.refl _
    readyKeep := fun q h hh hslot => by
      refine (hready q).symm ▸ ?_
      split
      · refine List.mem_filter.2 ⟨hh, ?_⟩
        have : h ≠ handleOf s slot := fun heq => hslot (by simp [heq, handleOf])
        simp [this]
      · exact hh
    readyGone := fun y hy hst => by
      obtain rfl : y = (slot, r) := by simpa using hy
      refine (hready c.queue).symm ▸ ?_
      rw [if_pos rfl, List.mem_filter]
      simp [show r.state = .ready from hst]
    claimsSub := by
      dsimp only
      split
      · exact List.filter_sublist
      · exact List.Sublist.refl _
    claimsKeep := fun h hh hslot => by
      have : h ≠ handleOf s slot := fun heq => hslot (by simp [heq, handleOf])
      dsimp only
      split
      · exact List.mem_filter.2 ⟨hh, by simp [this]⟩
      · exact hh
    claimsGone := fun y hy hst => by
      obtain rfl : y = (slot, r) := by simpa using hy
      rw [if_pos hst, List.mem_filter]
      simp
    tag := rfl
    queue := rfl
    edge := rfl
    held := rfl
    window := fun k => by simpa using winGet_freedContext c r k }

/-- What is set of the context after records were dropped may be set with it. -/
theorem Dropped.setCtx {s t : State} {i : Nat} {c d e : Context} {rs : List (Nat × Extent)} (h : Dropped s t i c d rs)
    (hplace : PlaceKept d e) : Dropped s (setCtx t i e) i c e rs where
  context := h.context
  records := h.records
  nodup := h.nodup
  frame := h.frame.trans (heldWork_setCtx ..)
  extentSize := h.extentSize
  contexts := by rw [setCtx_contexts, h.contexts, tabSet_tabSet]
  extents := h.extents
  freeSlots := h.freeSlots
  gens := h.gens
  readySub := h.readySub
  readyKeep := h.readyKeep
  readyGone := h.readyGone
  claimsSub := h.claimsSub
  claimsKeep := h.claimsKeep
  claimsGone := h.claimsGone
  tag := hplace.tag.trans h.tag
  queue := hplace.queue.trans h.queue
  edge := hplace.edge.trans h.edge
  held := hplace.held.trans h.held
  window := fun k => by
    rw [← h.window k, winGet, winGet]
    simp only [hplace.edge, hplace.window]

/-- Automatic failure handling drops the unsealed records (R11). -/
theorem dropped_failStream {s : State} (hw : TablesWf s) {i : Nat} {c : Context} (hc : ctxOf s i = some c)
    (hst : ¬ (c.state = .failed ∨ c.state = .withdrawing)) (cause : Cause) : ∃ d,
    d = { c with
      state := .failed
      cause := some cause
      held := c.held - (unsealedRecords s i).length
      phase := .off
      notices := { c.notices with failed := some cause }
      window := d.window } ∧
    Dropped s (failStream s i cause) i c d (unsealedRecords s i) := by
  obtain ⟨d, hd, hwin, hgen, heq⟩ := failStream_step hw.contexts hw.extents hc hst cause
  have hmem (y : Nat × Extent) (hy : y ∈ unsealedRecords s i) := (mem_unsealedRecords hw.extents).1 hy
  have hready : (failStream s i cause).ready = s.ready := by rw [heq]
  have hclaims : (failStream s i cause).claims = s.claims := by rw [heq]
  refine ⟨d, hd, ?_⟩
  exact {
    context := hc
    records := fun y hy => ⟨(hmem y hy).1, (hmem y hy).2.1⟩
    nodup := slotsOf_nodup hw.extents i ExtentState.unsealed
    frame := heldWork_failStream ..
    extentSize := by rw [heq]
    contexts := by rw [heq]
    extents := by rw [heq, filter_unsealedRecords hw.extents]
    freeSlots := by rw [heq]
    gens := fun n hn => (hgen n).trans (if_neg hn)
    readySub := fun q => by rw [hready]
    readyKeep := fun q h hh _ => by rwa [hready]
    readyGone := fun y hy hst => absurd (hmem y hy).2.2 (by simp [hst, ExtentState.unsealed])
    claimsSub := by rw [hclaims]
    claimsKeep := fun h hh _ => by rwa [hclaims]
    claimsGone := fun y hy hst => absurd (hmem y hy).2.2 (by simp [hst, ExtentState.unsealed])
    tag := by rw [hd]
    queue := by rw [hd]
    edge := by rw [hd]
    held := by rw [hd]
    window := fun k => by
      rw [hwin]
      have hany : (unsealedRecords s i).any (fun y => y.2.index == k) =
          (unsealedRecords s i).any (fun y => y.2.state.unsealed && y.2.index == k) := by
        rw [Bool.eq_iff_iff, List.any_eq_true, List.any_eq_true]
        exact exists_congr fun y => and_congr_right fun hy => by simp [(hmem y hy).2.2]
      rw [hany] }

/-- A failed stream that kept no unsealed record is as its state requires. -/
theorem Dropped.streamTrue_of_failed {s t : State} {i : Nat} {c d : Context} (h : Dropped s t i c d (unsealedRecords s i))
    (hstate : d.state = .failed) (hcause : d.cause.isSome = true) (hphase : d.phase = .off) (hlength : d.length = c.length)
    (hc : LengthTrue s i c) : StreamTrue t i d := by
  refine ⟨?_, h.lengthTrue hlength (by simp [hstate]) hc⟩
  unfold StateTrue
  rw [hstate]
  refine ⟨hcause, hphase, fun x hx => ?_⟩
  obtain ⟨hmem, hgone⟩ := h.recordsOf_subset i x hx
  rw [← unsealed_eq_false_iff]
  by_contra hun
  exact hgone (List.mem_map_of_mem (List.mem_filter.2 ⟨hmem, by simpa using hun⟩))

theorem works_failStream (s : State) (i : Nat) (cause : Cause) : Works s (failStream s i cause) := by
  cases hc : ctxOf s i with
  | none => rw [failStream, hc]; exact .refl s
  | some c =>
    by_cases hst : c.state = .failed ∨ c.state = .withdrawing
    · rw [failStream_of_failed hc hst]; exact .refl s
    refine ⟨fun hw => ?_, (heldWork_failStream ..).portsKept⟩
    obtain ⟨d, hd, hdrop⟩ := dropped_failStream hw hc hst cause
    refine (works_drop hdrop ?_ fun hstream => hdrop.streamTrue_of_failed ?_ ?_ ?_ ?_ hstream.2).chain hw
    · exact valuesKept_of_eq (by rw [hd]; exact ⟨rfl, rfl⟩) (by rw [hd]) (by rw [hd]; exact ⟨rfl, rfl, rfl⟩)
        (.inl (by rw [hd])) (by rw [hd]) (by rw [hd])
    all_goals rw [hd]
    rfl

theorem valuesKept_freedContext (c : Context) (r : Extent) : ValuesKept c (freedContext c r) :=
  valuesKept_of_eq ⟨rfl, rfl⟩ rfl ⟨rfl, rfl, rfl⟩ (.inr ⟨rfl, rfl⟩) rfl rfl

/-- A record of a stream that is not in WITHDRAWING may be dropped. -/
theorem works_freeExtent {s : State} {slot : Nat} {r : Extent} {c : Context} (hr : tabGet s.extents slot = some r)
    (hc : ctxOf s r.stream = some c) (hst : c.state ≠ .withdrawing) : Works s (freeExtent s slot) := by
  have hdrop := dropped_freeExtent hr hc
  refine works_drop hdrop (valuesKept_freedContext c r) fun hstream => ⟨?_, ?_⟩
  · have hsub (x : Nat × Extent) (hx : x ∈ recordsOf (freeExtent s slot) r.stream) :=
      (hdrop.recordsOf_subset r.stream x hx).1
    have hstate := hstream.1
    unfold StateTrue at hstate ⊢
    have heq : (freedContext c r).state = c.state := rfl
    rw [heq]
    cases hcs : c.state with
    | opened => rwa [hcs] at hstate
    | ending => rwa [hcs] at hstate
    | done =>
      rw [hcs] at hstate
      obtain ⟨hl, hcause, hphase, hrecords⟩ := hstate
      exact ⟨hl, hcause, hphase, fun x hx => hrecords x (hsub x hx)⟩
    | failed =>
      rw [hcs] at hstate
      obtain ⟨hcause, hphase, hrecords⟩ := hstate
      exact ⟨hcause, hphase, fun x hx => hrecords x (hsub x hx)⟩
    | withdrawing => exact absurd hcs hst
  · exact hdrop.lengthTrue rfl id hstream.2

/-! ## DONE (R9, R10, R113) -/

/-- A stream whose edge has reached N holds no unsealed record: its position would be LIVE, at or above the edge, and its
index below N. -/
theorem sealed_of_edge {s : State} (hlive : UnsealedLive s) {i : Nat} {c : Context} (hc : ctxOf s i = some c)
    (hlength : LengthTrue s i c) {l : Nat} (hl : c.length = some l)
    (hedge : extentCount (extentBytes s.extentSize) l ≤ c.edge) :
    ∀ x ∈ recordsOf s i, x.2.state = .ready ∨ x.2.state = .claimed := by
  intro x hx
  obtain ⟨-, -, -, hrecords, -⟩ := hlength l hl
  obtain ⟨hmem, hstream⟩ := List.mem_filter.1 hx
  rw [← unsealed_eq_false_iff]
  by_contra hun
  have hwin := hlive.live x hmem (by simpa using hun) c (by rw [beq_iff_eq.1 hstream]; exact hc)
  have hin := in_window_of_winGet (x := c) (k := x.2.index) (by rw [hwin]; decide)
  have := hrecords x hx
  omega

theorem works_enterDone {s : State} {i l : Nat} {c : Context} (hc : ctxOf s i = some c) (hending : c.state = .ending)
    (hlength : c.length = some l) (hedge : extentCount (extentBytes s.extentSize) l ≤ c.edge) (n : Nat) :
    Works s (enterDone s i n) := by
  rw [enterDone_eq hc]
  refine works_context hc ⟨rfl, rfl, rfl, rfl, rfl⟩ ?_ fun hlive hstream => ⟨?_, fun m hm => ?_⟩
  · exact valuesKept_of_eq ⟨rfl, rfl⟩ rfl ⟨rfl, rfl, rfl⟩ (.inl rfl) rfl rfl
  · have hstate := hstream.1
    unfold StateTrue at hstate
    rw [hending] at hstate
    exact ⟨hstate.1, hstate.2, rfl, sealed_of_edge hlive hc hstream.2 hlength hedge⟩
  · obtain ⟨hmax, hle, hsealed, hrecords, -⟩ := hstream.2 m hm
    obtain rfl : l = m := Option.some.inj (hlength.symm.trans hm)
    exact ⟨hmax, hle, hsealed, hrecords, fun _ => hedge⟩

theorem works_evalDone (s : State) (i : Nat) : Works s (evalDone s i) := by
  unfold evalDone
  split
  · exact .refl s
  · rename_i c hc
    split
    · rename_i l hending hlength
      dsimp only
      split
      · exact .refl s
      · have hedge := Nat.not_lt.1 ‹_›
        split
        · split
          · exact works_enterDone hc hending hlength hedge _
          · exact works_failStream ..
        · split
          · exact .refl s
          · exact works_enterDone hc hending hlength hedge _
    · exact .refl s

/-! ## The seal, the compare and the routing (R70, R105, R106, R110) -/

theorem works_sealExtent {s : State} {slot : Nat} {r : Extent} (hr : tabGet s.extents slot = some r)
    (hun : r.state.unsealed = true) (checked : Bool) : Works s (sealExtent s slot checked) := by
  cases hc : ctxOf s r.stream with
  | none =>
    rw [sealExtent, hr]
    simp only [hc]
    exact .refl s
  | some c =>
    rw [sealExtent_eq hr hc]
    exact ((Move.seals checked hr hc hun).works ⟨rfl, rfl, rfl, rfl⟩).trans (works_evalDone ..)

/-- A record whose ranges, accumulators or expected value change, its retries and store attempts staying. -/
theorem recordKept_of_eq {s : State} {slot : Nat} {r q : Extent} (hr : tabGet s.extents slot = some r)
    (hplace : q.stream = r.stream ∧ q.index = r.index)
    (hstate : q.state = r.state ∨ (r.state.unsealed = true ∧ q.state.unsealed = true))
    (hcounts : q.retries = r.retries ∧ q.storeAttempts = r.storeAttempts) (hreduced : RecReduced r → RecReduced q) :
    RecordKept s r q :=
  ⟨hplace.1, hplace.2, hstate, fun h => by
    rw [hcounts.1, hcounts.2]
    exact h.2.2.2.2.2.2 (slot, r) (mem_of_tabGet hr), hreduced⟩

theorem reduced_zero : Reduced { s := 0, t := 0 } := ⟨by decide, by decide⟩

theorem works_extentReset {s : State} {slot : Nat} {r : Extent} {c : Context} (hr : tabGet s.extents slot = some r)
    (hc : ctxOf s r.stream = some c) (hun : r.state.unsealed = true) (hretry : r.retries < c.retryLimit) :
    Works s (extentReset s slot) := by
  have hemptied : RecordKept s r
      { r with state := .filling, ranges := [], acc := { s := 0, t := 0 }, retries := r.retries + 1 } := by
    refine ⟨rfl, rfl, .inr ⟨hun, rfl⟩, fun h => ?_, fun h => ⟨reduced_zero, h.2⟩⟩
    obtain ⟨-, -, -, -, -, hlimits, hrecords⟩ := h
    have hlimit := (hlimits (r.stream, c) (mem_of_tabGet hc)).2
    have hattempts := (hrecords (slot, r) (mem_of_tabGet hr)).2
    exact ⟨by dsimp only at *; omega, hattempts⟩
  rw [extentReset_eq hr hc]
  refine (works_record hr hemptied).trans
    (works_setCtx hc ⟨⟨rfl, rfl, rfl, rfl, rfl⟩, rfl, rfl, rfl, .inl rfl⟩ ⟨⟨rfl, rfl⟩, fun h => ?_, id, id⟩)
  obtain ⟨haccepted, hduplicate, hrefused, hretries, hfailures⟩ := h
  exact ⟨haccepted, hduplicate, hrefused, counterTrue_add hretries 1, hfailures⟩

theorem works_compareExtent {s : State} {slot : Nat} {r : Extent} (hr : tabGet s.extents slot = some r)
    (hun : r.state.unsealed = true) : Works s (compareExtent s slot).1 := by
  by_cases hv : r.expected = some r.acc
  · rw [compareExtent_of_equal hr hv]
    exact works_sealExtent hr hun true
  cases hc : ctxOf s r.stream with
  | none =>
    rw [compareExtent, hr]
    simp only [if_neg hv, hc]
    exact .refl s
  | some c =>
    rw [compareExtent_of_unequal hr hc hv]
    split
    · exact works_extentReset hr hc hun ‹_›
    · exact works_failStream ..

theorem works_routeComplete (s : State) (slot : Nat) : Works s (routeComplete s slot) := by
  unfold routeComplete
  split
  · exact .refl s
  · rename_i r hr
    split
    · exact .refl s
    · split
      · rename_i hfull
        have hun : r.state.unsealed = true := by rw [hfull.1]; rfl
        split
        · exact works_compareExtent hr hun
        · split
          · exact works_record hr (recordKept_of_eq hr ⟨rfl, rfl⟩ (.inr ⟨hun, rfl⟩) ⟨rfl, rfl⟩ id)
          · exact works_sealExtent hr hun false
      · exact .refl s

/-- The storing of a value in an unsealed record, with the compare that may follow (R71, R99). -/
theorem works_storeCheck {s : State} {slot : Nat} {v : Pcv} (hv : Reduced v) : Works s (storeCheck s slot v).1 := by
  unfold storeCheck
  split
  · exact .refl s
  · rename_i r hr
    have hstore : Works s (setExtent s slot { r with expected := some v }) :=
      works_record hr (recordKept_of_eq hr ⟨rfl, rfl⟩ (.inl rfl) ⟨rfl, rfl⟩
        fun h => ⟨h.1, fun w hw => by cases hw; exact hv⟩)
    split
    · rename_i hawait
      refine hstore.trans (works_compareExtent (r := { r with expected := some v }) (by simp) ?_)
      rw [hawait]
      rfl
    · exact hstore

/-! ## The learning of L (R24, R26) -/

/-- Stream `i`, if it is OPEN, holds nothing that L = `l` does not allow. -/
def LearnAllowed (s : State) (i l : Nat) : Prop :=
  ∀ c, ctxOf s i = some c → c.state = .opened → LengthTrue s i { c with length := some l, state := .ending }

theorem works_routeLast (s : State) (i l : Nat) : Works s (routeLast s i l) := by
  unfold routeLast
  dsimp only
  split
  · split
    · exact .refl s
    · exact works_routeComplete ..
  · exact .refl s

theorem works_learnLength {s : State} {i l : Nat} (hallowed : LearnAllowed s i l) : Works s (learnLength s i l) := by
  unfold learnLength
  split
  · exact .refl s
  · rename_i c hc
    split
    · rename_i hopen
      refine .trans ?_ ((works_routeLast ..).trans (works_evalDone ..))
      refine works_context hc ⟨rfl, rfl, rfl, rfl, rfl⟩ ⟨⟨rfl, rfl⟩, id, fun h => ?_, id⟩
        fun _ hstream => ⟨?_, hallowed c hc hopen⟩
      · obtain ⟨ha, hb, hcount, hgap, habandon, -⟩ := h
        exact ⟨ha, hb, hcount, hgap, habandon, fun h => by cases h⟩
      · have hstate := hstream.1
        unfold StateTrue at hstate
        rw [hopen] at hstate
        exact ⟨rfl, hstate.2⟩
    · exact .refl s

/-- L not above an object offset inside extent `k` means that `k` is at or above N. -/
theorem lt_extentCount {e l k : Nat} (he : 0 < e) : k < extentCount e l ↔ k * e < l := by
  rw [extentCount, Nat.lt_div_iff_mul_lt he]
  omega

theorem le_extentCount_of_mul_le {e l k : Nat} (he : 0 < e) (h : k * e ≤ l) : k ≤ extentCount e l := by
  rw [extentCount, Nat.le_div_iff_mul_le he]
  omega

/-- A length that passes the four tests of R24 may be learned. -/
theorem lengthTrue_of_no_conflict {s : State} {i l : Nat} {c : Context} (hmax : l ≤ Config.maxObject)
    (h : lengthConflict s i c l = false) : LengthTrue s i { c with length := some l, state := .ending } := by
  unfold lengthConflict at h
  simp only [Bool.or_eq_false_iff, List.any_eq_false, decide_eq_true_eq, Nat.not_lt, Nat.not_le, decide_eq_false_iff_not,
    Bool.and_eq_true, beq_iff_eq, not_and] at h
  obtain ⟨⟨⟨-, hedge⟩, hrecords⟩, hsealed⟩ := h
  intro m hm
  cases hm
  refine ⟨hmax, le_extentCount_of_mul_le (extentBytes_pos _) hedge, fun p hp => ?_, hrecords, fun h => by cases h⟩
  have := hsealed p.val (by simp) (by rw [winGet_add]; exact hp)
  exact le_extentCount_of_mul_le (extentBytes_pos _) this

/-! ## The abort of a stream (R13, R14) -/

theorem FreedRecords.heldWork {s t : State} {i : Nat} {x d : Context} {rs : List (Nat × Extent)}
    (h : FreedRecords s t i x d rs) : HeldWork s t := by
  have hframe := h.frame
  unfold HeldWork
  rw [hframe]

/-- Freed records, none of them claimed, are dropped. -/
theorem FreedRecords.dropped {s t : State} {i : Nat} {x d : Context} {rs : List (Nat × Extent)}
    (h : FreedRecords s t i x d rs) (hw : TablesWf s) (hwt : tabWf t.contexts = true) (hx : ctxOf s i = some x)
    (hnodup : (rs.map (·.1)).Nodup)
    (hrs : ∀ y ∈ rs, tabGet s.extents y.1 = some y.2 ∧ y.2.stream = i ∧ y.2.state ≠ .claimed) :
    Dropped s t i x d rs := by
  have hclaims : t.claims = s.claims := by rw [h.frame]
  have hready (q : Fin 4) : t.ready[q].Sublist s.ready[q] := by
    rw [h.ready]
    split
    · exact List.filter_sublist
    · exact List.Sublist.refl _
  exact {
    context := hx
    records := fun y hy => ⟨(hrs y hy).1, (hrs y hy).2.1⟩
    nodup := hnodup
    frame := h.heldWork
    extentSize := by rw [h.frame]
    contexts := tab_ext hwt (tabWf_tabSet hw.contexts ..) fun j => by
      rw [tabGet_tabSet]
      exact h.contexts j
    extents := h.extents
    freeSlots := h.freeSlots
    gens := fun n hn => (h.gens n).trans (if_neg hn)
    readySub := hready
    readyKeep := fun q g hg hslot => by
      rw [h.ready]
      split
      · refine List.mem_filter.2 ⟨hg, ?_⟩
        simp only [Bool.not_eq_true', List.any_eq_false, Bool.and_eq_true, beq_iff_eq, not_and]
        rintro y hy - rfl
        exact hslot (List.mem_map_of_mem hy)
      · exact hg
    readyGone := fun y hy hst => by
      rw [h.ready, if_pos rfl, List.mem_filter]
      rintro ⟨-, hgone⟩
      simp only [Bool.not_eq_true', List.any_eq_false, Bool.and_eq_true, beq_iff_eq, not_and] at hgone
      exact hgone y hy hst rfl
    claimsSub := by rw [hclaims]
    claimsKeep := fun g hg _ => by rwa [hclaims]
    claimsGone := fun y hy hst => absurd hst (hrs y hy).2.2
    tag := by rw [h.fields]
    queue := by rw [h.fields]
    edge := by rw [h.fields]
    held := by rw [h.fields]
    window := h.window }

theorem works_abortStreamAt {s : State} {i : Nat} {x : Context} (hx : ctxOf s i = some x) :
    Works s (abortStreamAt s i) := by
  refine ⟨fun hw => ?_, (heldWork_abortStreamAt ..).portsKept⟩
  obtain ⟨d, hfreed⟩ := withdrawExtents_freedRecords hw.extents hx
  rw [abortStreamAt_eq hw.extents hx hfreed]
  have hmem (y : Nat × Extent) := mem_withdrawn hw.extents (i := i) (y := y)
  have hdrop := (hfreed.dropped hw (tabWf_freeExtents hw.contexts _) hx
    (slotsOf_nodup hw.extents i withdrawable) fun y hy => (hmem y).1 hy).setCtx
      (e := abortedContext s i d) ⟨rfl, rfl, rfl, rfl, rfl⟩
  have hclaimed : ∀ y ∈ recordsOf (setCtx (withdrawExtents s i) i (abortedContext s i d)) i, y.2.state = .claimed := by
    intro y hy
    obtain ⟨hrec, hgone⟩ := hdrop.recordsOf_subset i y hy
    by_contra hst
    exact hgone (List.mem_map_of_mem (List.mem_filter.2 ⟨hrec, by simpa using hst⟩))
  refine (works_drop hdrop ?_ fun hstream => ⟨?_, ?_⟩).chain hw
  · refine valuesKept_of_eq ?_ ?_ ?_ (.inl rfl) ?_ ?_ <;> simp only [abortedContext] <;> rw [hfreed.fields] <;> simp
  · unfold StateTrue
    have hst : (abortedContext s i d).state = if withdrawn s i = recordsOf s i then .failed else .withdrawing := rfl
    rw [hst]
    by_cases hall : withdrawn s i = recordsOf s i
    · rw [if_pos hall]
      exact ⟨rfl, rfl, fun y hy => .inr (hclaimed y hy)⟩
    · rw [if_neg hall]
      refine ⟨rfl, rfl, fun hnil => hall (List.filter_eq_self.2 fun y hy => ?_), hclaimed⟩
      simp only [bne_iff_ne, ne_eq]
      intro hy'
      have hkept : y ∈ recordsOf (setCtx (withdrawExtents s i) i (abortedContext s i d)) i := by
        obtain ⟨hy1, hy2⟩ := List.mem_filter.1 hy
        rw [recordsOf, setCtx_extents, withdrawExtents_extents hw.extents hx, List.mem_filter, List.mem_filter]
        exact ⟨⟨hy1, by simp [hy']⟩, hy2⟩
      rw [hnil] at hkept
      cases hkept
  · refine hdrop.lengthTrue (by simp only [abortedContext]; rw [hfreed.fields]) ?_ hstream.2
    simp only [abortedContext]
    split <;> intro h <;> cases h

end Sys2Proof.Machine
end

section
/-! PROOFS. The segment port as chains of moves: SEGMENT, CHECK, TRAILER and arrivals of an unknown kind. -/
namespace Sys2Proof.Machine

/-! ## The answers (R34 to R38) -/

theorem works_answerMapped (s : State) (i : Nat) (tag : Word) (code : DispCode) (n : Nat) :
    Works s (answerMapped s i tag code n) :=
  works_same ⟨rfl, rfl, rfl, rfl, rfl, rfl, rfl, ⟨id, id, id, id, id, id⟩⟩ ⟨rfl, rfl, rfl, rfl⟩

theorem linkCountersTrue_arrival {k : LinkCounters} (h : LinkCountersTrue k) : LinkCountersTrue k.arrival :=
  ⟨counterTrue_add h.1 1, h.2⟩

theorem linkCountersTrue_refusal {k : LinkCounters} (h : LinkCountersTrue k) : LinkCountersTrue k.refusal := by
  obtain ⟨h1, h2, h3, h4, h5⟩ := h
  exact ⟨h1, h2, h3, counterTrue_add h4 1, h5⟩

theorem linkCountersTrue_unknown {k : LinkCounters} (h : LinkCountersTrue k) : LinkCountersTrue k.unknown := by
  obtain ⟨h1, h2, h3, h4, h5⟩ := h
  exact ⟨h1, h2, h3, h4, counterTrue_add h5 1⟩

theorem linkCountersTrue_bytes {k : LinkCounters} (h : LinkCountersTrue k) (n m : Nat) :
    LinkCountersTrue (k.bytes n m) := by
  obtain ⟨h1, h2, h3, h4, h5⟩ := h
  exact ⟨h1, counterTrue_add h2 n, counterTrue_add h3 m, h4, h5⟩

theorem sameWork_countLink (s : State) (link : Fin 4) {f : LinkCounters → LinkCounters}
    (hf : ∀ k, LinkCountersTrue k → LinkCountersTrue (f k)) : SameWork s (countLink s link f) := by
  refine ⟨rfl, rfl, rfl, rfl, rfl, rfl, rfl, ⟨fun h l => ?_, id, id, id, id, id⟩⟩
  by_cases hl : l = link
  · subst hl
    simpa [countLink] using hf _ (h l)
  · have hne : link.val ≠ l.val := fun e => hl (Fin.ext e.symm)
    simpa [countLink, hne] using h l

theorem works_countLink (s : State) (link : Fin 4) {f : LinkCounters → LinkCounters}
    (hf : ∀ k, LinkCountersTrue k → LinkCountersTrue (f k)) : Works s (countLink s link f) :=
  works_same (sameWork_countLink s link hf) ⟨rfl, rfl, rfl, rfl⟩

theorem works_arrived (s : State) (link : Fin 4) : Works s (countLink s link LinkCounters.arrival) :=
  works_countLink s link fun _ => linkCountersTrue_arrival

theorem works_refuseUnknownStream (s : State) (link : Fin 4) (tag : Word) : Works s (refuseUnknownStream s link tag) :=
  (works_countLink s link (f := fun k => k.refusal.unknown)
    fun _ h => linkCountersTrue_unknown (linkCountersTrue_refusal h)).trans
    (works_same ⟨rfl, rfl, rfl, rfl, rfl, rfl, rfl, ⟨id, id, id, id, id, id⟩⟩ ⟨rfl, rfl, rfl, rfl⟩)

theorem works_refuseArrival (s : State) (i : Nat) (link : Fin 4) (tag : Word) (code : DispCode) :
    Works s (refuseArrival s i link tag code) := by
  refine (works_countLink s link fun _ => linkCountersTrue_refusal).trans
    (.trans (works_modCtx (fun c => ?_) fun c => ?_) (works_answerMapped ..))
  · exact ⟨⟨rfl, rfl, rfl, rfl, rfl⟩, rfl, rfl, rfl, .inl rfl⟩
  · exact ⟨⟨rfl, rfl⟩, fun ⟨h1, h2, h3, h4, h5⟩ => ⟨h1, h2, counterTrue_add h3 1, h4, h5⟩, id, id⟩

/-! ## The admission of a SEGMENT (R39 to R44) -/

theorem running_of_not_failed {st : StreamState} (hfail : ¬ (st = .failed ∨ st = .withdrawing)) (hdone : st ≠ .done) :
    st.running = true := by
  cases st <;> simp_all [StreamState.running]

/-- An extent that a segment reaches lies below N for every L at or above the segment's end. -/
theorem index_lt_extentCount {e off len m : Nat} (he : 0 < e) (hlen : 0 < len) {p : Piece} (hp : p ∈ piecesOf e off len)
    (hpos : p.start < p.stop) (hm : off + len ≤ m) : p.index < extentCount e m := by
  rw [lt_extentCount he]
  obtain ⟨-, hstop⟩ := pieceCarried_of_mem_piecesOf he hlen p hp
  omega

theorem placeOf_eq_absent {s : State} {i : Nat} {c : Context} {p : Piece} (h : placeOf s i c p = .absent) :
    c.edge ≤ p.index ∧ winGet c p.index ≠ .sealed ∧ (winGet c p.index = .live → unsealedRecord s i p.index = none) := by
  unfold placeOf at h
  split at h
  · cases h
  · refine ⟨by omega, ?_⟩
    split at h
    · cases h
    · simp_all
    · split at h
      · simp_all
      · cases h

/-- The pieces of an admitted segment that need a record may have one created. -/
theorem createAllowed_of_target {s : State} {i : Nat} {c : Context} {a : SegmentArrival} {ts : List Target}
    (hrun : c.state.running = true) (hok : segmentAdmission s i c a = .ok ts) :
    ∀ t ∈ ts, t.fresh = true → CreateAllowed s i c t.piece.index := by
  intro t ht hfresh
  obtain ⟨hformat, hlength, rfl | ⟨hroom, rfl⟩⟩ := segmentAdmission_eq_ok hok
  · cases ht
  obtain ⟨-, hplace⟩ | ⟨hnot, -⟩ := mem_targetsOf ht
  · obtain ⟨p, hp, heq⟩ := List.mem_map.1 hplace
    obtain ⟨rfl, habsent⟩ := Prod.mk.inj heq
    obtain ⟨hlower, hsealed, hunbound⟩ := placeOf_eq_absent habsent
    have hupper : t.piece.index < c.edge + Config.windowSize := by
      unfold segmentRoom at hroom
      split at hroom
      · cases hroom
      · rename_i hnone
        simp only [List.any_eq_true, decide_eq_true_eq, not_exists, not_and, Nat.not_le] at hnone
        exact hnone _ hplace
    have hlen := (segmentFormat_eq_none hformat).2.1
    refine ⟨hrun, hlower, hupper, hsealed, hunbound, fun l hl => ?_⟩
    refine index_lt_extentCount (extentBytes_pos _) hlen hp (pieceFits_of_segment hformat hlength _ hp).nonempty ?_
    exact (segmentEnd_of_segmentLength hlength).1 l (by rw [lengthAfter_of_some hl]; rfl)
  · rw [hfresh] at hnot
    cases hnot

/-! ## The records of a SEGMENT (R45 steps 1 and 2) -/

theorem unsealedRecord_eq_none_iff {s : State} {i k : Nat} :
    unsealedRecord s i k = none ↔
      ∀ x ∈ s.extents, ¬ (x.2.stream = i ∧ x.2.index = k ∧ x.2.state.unsealed = true) := by
  constructor
  · intro h x hx hrec
    cases hf : s.extents.find? (fun e => e.2.stream == i && e.2.index == k && e.2.state.unsealed) with
    | none => simpa [hrec] using List.find?_eq_none.1 hf x hx
    | some y =>
      cases hy : tabGet s.extents y.1 with
      | none =>
        have hlisted : ∀ t : Table Extent, y ∈ t → tabGet t y.1 ≠ none := fun t => by
          induction t with
          | nil => simp
          | cons z t ih =>
            intro hmem
            unfold tabGet
            split
            · simp
            · rcases List.mem_cons.1 hmem with rfl | hmem
              · simp at *
              · exact ih hmem
        exact hlisted _ (List.mem_of_find?_eq_some hf) hy
      | some r => simp [unsealedRecord, findUnsealed, hf, hy] at h
  · intro h
    have hf : s.extents.find? (fun e => e.2.stream == i && e.2.index == k && e.2.state.unsealed) = none :=
      List.find?_eq_none.2 fun x hx => by simpa [and_assoc] using h x hx
    simp [unsealedRecord, findUnsealed, hf]

/-- The context of a stream after a record was created for extent `k` (R66). -/
def holding (c : Context) (k : Nat) : Context := { c with window := winSet c k .live, held := c.held + 1 }

/-- Allocation takes the head of the free-slot list, or does nothing where the list is empty. -/
theorem createExtent_cases {s : State} {i k : Nat} {c : Context} (hc : ctxOf s i = some c) (v : Option Pcv) :
    createExtent s i k v = s ∨
      ∃ slot rest, s.freeSlots = slot :: rest ∧
        createExtent s i k v =
          { s with
            freeSlots := rest
            extents := tabSet s.extents slot (newExtent i k v)
            contexts := tabSet s.contexts i (holding c k) } := by
  cases hs : s.freeSlots with
  | nil => exact .inl (by rw [createExtent, hs])
  | cons slot rest => exact .inr ⟨slot, rest, rfl, createExtent_eq hs hc k v⟩

theorem ctxOf_createExtent_isSome {s : State} {i k : Nat} {c : Context} (hc : ctxOf s i = some c) (v : Option Pcv) :
    ∃ d, ctxOf (createExtent s i k v) i = some d := by
  obtain heq | ⟨slot, rest, -, heq⟩ := createExtent_cases hc v (k := k)
  · exact ⟨c, by rw [heq]; exact hc⟩
  · exact ⟨_, by rw [heq]; exact tabGet_tabSet_same ..⟩

theorem winGet_holding (c : Context) (k j : Nat) :
    winGet (holding c k) j = if j = k ∧ c.edge ≤ k ∧ k - c.edge < 64 then .live else winGet c j :=
  winGet_winSet c k j .live

/-- A record created for another extent leaves the creation of one allowed. -/
theorem createAllowed_createExtent {s : State} {i j k : Nat} {c : Context} (hc : ctxOf s i = some c)
    (hallowed : CreateAllowed s i c j) (hjk : j ≠ k) (v : Option Pcv) :
    ∃ d, ctxOf (createExtent s i k v) i = some d ∧ d.state = c.state ∧ d.length = c.length ∧
      CreateAllowed (createExtent s i k v) i d j := by
  obtain heq | ⟨slot, rest, -, heq⟩ := createExtent_cases hc v (k := k)
  · rw [heq]
    exact ⟨c, hc, rfl, rfl, hallowed⟩
  · have hwin : winGet (holding c k) j = winGet c j := (winGet_holding ..).trans (if_neg (by simp [hjk]))
    rw [heq]
    refine ⟨holding c k, tabGet_tabSet_same .., rfl, rfl, hallowed.running, hallowed.lower, hallowed.upper,
      hwin ▸ hallowed.notSealed, fun hlive => unsealedRecord_eq_none_iff.2 fun x hx => ?_, hallowed.below⟩
    rcases mem_tabSet hx with rfl | hx
    · exact fun h => hjk h.2.1.symm
    · exact unsealedRecord_eq_none_iff.1 (hallowed.unbound (hwin ▸ hlive)) x hx

theorem works_createTargets {i : Nat} (ts : List Target) {s : State} {c : Context} (hc : ctxOf s i = some c)
    (hallowed : ∀ t ∈ ts, t.fresh = true → CreateAllowed s i c t.piece.index)
    (hnodup : (ts.map (·.piece.index)).Nodup) : Works s (createTargets s i ts) := by
  induction ts generalizing s c with
  | nil => exact .refl s
  | cons t ts ih =>
    obtain ⟨ht, hrest⟩ := List.forall_mem_cons.1 hallowed
    obtain ⟨hindex, hnodup⟩ := List.nodup_cons.1 hnodup
    rw [createTargets_cons]
    split
    · rename_i hfresh
      refine (works_createExtent (v := none) hc (ht hfresh) (by simp)).trans ?_
      obtain ⟨d, hd⟩ := ctxOf_createExtent_isSome hc none (k := t.piece.index)
      refine ih hd (fun u hu hf => ?_) hnodup
      have hne : u.piece.index ≠ t.piece.index := fun h => hindex (List.mem_map.2 ⟨u, hu, h⟩)
      obtain ⟨d', hd', -, -, hcreate⟩ := createAllowed_createExtent hc (hrest u hu hf) hne none
      obtain rfl := Option.some.inj (hd.symm.trans hd')
      exact hcreate
    · exact ih hc hrest hnodup

theorem reduced_accumulate (p : Pcv) (j : Nat) (bytes : List Byte) : Reduced (accumulate p j bytes) :=
  ⟨Nat.mod_lt _ (by decide), Nat.mod_lt _ (by decide)⟩

theorem reduced_accumulateRuns {p : Pcv} (hp : Reduced p) (e off : Nat) (payload : List Byte) (k : Nat)
    (runs : List (Nat × Nat)) : Reduced (accumulateRuns p e off payload k runs) := by
  induction runs generalizing p with
  | nil => exact hp
  | cons q runs ih => exact ih (reduced_accumulate ..)

/-- The slot of a target lies in the pool, and its sub-pieces in the extent (R51, R52). -/
structure TargetInPool (z : ExtentSize) (t : Target) : Prop where
  slot : t.slot < slotCount z
  runs : ∀ q ∈ t.runs, q.1 ≤ extentBytes z ∧ q.2 ≤ extentBytes z

theorem slotEnd_le_bufferBytes {z : ExtentSize} {slot : Nat} (h : slot < slotCount z) :
    slot * extentBytes z + extentBytes z ≤ Config.bufferBytes := by
  cases z <;> simp only [slotCount, extentBytes, Config.bufferBytes] at * <;> omega

theorem memWf_writeRuns {m : List Host.Cell} (hm : memWf m = true) {z : ExtentSize} {slot : Nat}
    (hslot : slot < slotCount z) (off : Nat) (payload : List Byte) (k : Nat) {runs : List (Nat × Nat)}
    (hruns : ∀ q ∈ runs, q.1 ≤ extentBytes z ∧ q.2 ≤ extentBytes z) :
    memWf (writeRuns m (extentBytes z) off payload slot k runs) = true := by
  induction runs generalizing m with
  | nil => exact hm
  | cons q runs ih =>
    obtain ⟨⟨ha, hb⟩, hrest⟩ := List.forall_mem_cons.1 hruns
    refine ih (memWf_writeBytes hm ?_) hrest
    have hlength : (payloadRun (extentBytes z) off payload k q.1 q.2).length ≤ q.2 - q.1 := by
      simp only [payloadRun, List.length_take]
      omega
    have := slotEnd_le_bufferBytes hslot
    omega

theorem writeTarget_extentSize (a : SegmentArrival) (s : State) (t : Target) :
    (writeTarget a s t).extentSize = s.extentSize := by
  unfold writeTarget
  split <;> rfl

theorem works_writeTarget (a : SegmentArrival) {s : State} {t : Target} (ht : TargetInPool s.extentSize t) :
    Works s (writeTarget a s t) := by
  unfold writeTarget
  split
  · exact .refl s
  · rename_i r hr
    dsimp only
    have hmem : Works s { s with
        mem := writeRuns s.mem (extentBytes s.extentSize) a.offset.toNat a.payload t.slot t.piece.index t.runs } :=
      works_same ⟨rfl, rfl, rfl, rfl, rfl, rfl, rfl, ⟨id, id, id, id, id, fun h => memWf_writeRuns h ht.slot _ _ _ ht.runs⟩⟩
        ⟨rfl, rfl, rfl, rfl⟩
    refine hmem.trans (works_record (r := r) hr ?_)
    exact recordKept_of_eq (s := { s with mem := _ }) hr ⟨rfl, rfl⟩ (.inl rfl) ⟨rfl, rfl⟩
      fun h => ⟨reduced_accumulateRuns h.1 .., h.2⟩

theorem works_writeTargets (a : SegmentArrival) (ts : List Target) {s : State}
    (hts : ∀ t ∈ ts, TargetInPool s.extentSize t) : Works s (ts.foldl (writeTarget a) s) := by
  induction ts generalizing s with
  | nil => exact .refl s
  | cons t ts ih =>
    obtain ⟨ht, hrest⟩ := List.forall_mem_cons.1 hts
    exact (works_writeTarget a ht).trans (ih (by rwa [writeTarget_extentSize]))

theorem createTargets_extentSize (s : State) (i : Nat) (ts : List Target) :
    (createTargets s i ts).extentSize = s.extentSize :=
  (HeldWork.foldl _ (fun _ _ => heldWork_createExtent ..) _ _).extentSize

/-! ## The learning of L from a SEGMENT (R45 step 3) -/

/-- Stream `i` holds nothing that L = `l` does not allow. -/
def Learnable (s : State) (i l : Nat) : Prop :=
  ∀ c, ctxOf s i = some c → LengthTrue s i { c with length := some l, state := .ending }

/-- What a learnable length needs of the contexts and records. -/
theorem learnable_of_subset {s t : State} {i l : Nat} (hs : Learnable s i l) (hsize : t.extentSize = s.extentSize)
    (hctx : ∀ d, ctxOf t i = some d → ∃ c, ctxOf s i = some c ∧ d.edge = c.edge ∧
      ∀ k, winGet d k = .sealed → winGet c k = .sealed)
    (hrec : ∀ x ∈ recordsOf t i, (∃ y ∈ recordsOf s i, y.2.index = x.2.index) ∨
      x.2.index < extentCount (extentBytes s.extentSize) l) : Learnable t i l := by
  intro d hd m hm
  cases hm
  obtain ⟨c, hc, hedge, hwin⟩ := hctx d hd
  obtain ⟨hmax, hle, hsealed, hrecords, -⟩ := hs c hc l rfl
  simp only at hle hsealed ⊢
  rw [hsize, hedge]
  refine ⟨hmax, hle, fun p hp => hsealed p ?_, fun x hx => ?_, fun h => by cases h⟩
  · rw [← winGet_add]
    refine hwin _ ?_
    rw [← hedge, winGet_add]
    exact hp
  · obtain ⟨y, hy, hindex⟩ | hlt := hrec x hx
    · exact hindex ▸ hrecords y hy
    · exact hlt

theorem learnable_createExtent {s : State} {i k l : Nat} {c : Context} (hc : ctxOf s i = some c) (hs : Learnable s i l)
    (hk : k < extentCount (extentBytes s.extentSize) l) (v : Option Pcv) : Learnable (createExtent s i k v) i l := by
  obtain heq | ⟨slot, rest, -, heq⟩ := createExtent_cases hc v (k := k)
  · rwa [heq]
  · rw [heq]
    refine learnable_of_subset hs rfl (fun d hd => ⟨c, hc, ?_⟩) fun x hx => ?_
    · obtain rfl : holding c k = d := Option.some.inj ((tabGet_tabSet_same ..).symm.trans hd)
      refine ⟨rfl, fun j hj => ?_⟩
      rw [winGet_holding] at hj
      split at hj
      · cases hj
      · exact hj
    · obtain ⟨hmem, hstream⟩ := List.mem_filter.1 hx
      rcases mem_tabSet hmem with rfl | hmem
      · exact .inr hk
      · exact .inl ⟨x, List.mem_filter.2 ⟨hmem, hstream⟩, rfl⟩

theorem createExtent_extentSize (s : State) (i k : Nat) (v : Option Pcv) :
    (createExtent s i k v).extentSize = s.extentSize := (heldWork_createExtent s i k v).extentSize

theorem learnable_createTargets {i l : Nat} (ts : List Target) {s : State} {c : Context} (hc : ctxOf s i = some c)
    (hs : Learnable s i l) (hts : ∀ t ∈ ts, t.piece.index < extentCount (extentBytes s.extentSize) l) :
    Learnable (createTargets s i ts) i l := by
  induction ts generalizing s c with
  | nil => exact hs
  | cons t ts ih =>
    obtain ⟨ht, hrest⟩ := List.forall_mem_cons.1 hts
    rw [createTargets_cons]
    split
    · obtain ⟨d, hd⟩ := ctxOf_createExtent_isSome hc none (k := t.piece.index)
      exact ih hd (learnable_createExtent hc hs ht none) (by rwa [createExtent_extentSize])
    · exact ih hc hs hrest

theorem learnable_writeTarget {s : State} {i l : Nat} (hs : Learnable s i l) (a : SegmentArrival) (t : Target) :
    Learnable (writeTarget a s t) i l := by
  cases hr : tabGet s.extents t.slot with
  | none => rwa [writeTarget, hr]
  | some r =>
    obtain ⟨m, acc, heq⟩ := writeTarget_of_tabGet hr a
    rw [heq]
    refine learnable_of_subset hs rfl (fun d hd => ⟨d, hd, rfl, fun _ => id⟩) fun x hx => .inl ?_
    obtain ⟨hmem, hstream⟩ := List.mem_filter.1 hx
    rcases mem_tabSet hmem with rfl | hmem
    · exact ⟨(t.slot, r), List.mem_filter.2 ⟨mem_of_tabGet hr, hstream⟩, rfl⟩
    · exact ⟨x, List.mem_filter.2 ⟨hmem, hstream⟩, rfl⟩

theorem works_segmentLearn {u : State} {i : Nat} {c : Context} {a : SegmentArrival}
    (h : a.final = true → c.length = none → Learnable u i (segmentEnd a)) : Works u (segmentLearn u i c a) := by
  unfold segmentLearn
  split
  · rename_i hlearn
    simp only [Bool.and_eq_true, Option.isNone_iff_eq_none] at hlearn
    exact works_learnLength fun d hd _ => h hlearn.1 hlearn.2 d hd
  · exact .refl u

/-- What an admitted SEGMENT that supplies L may be learned from. -/
theorem learnable_of_segmentLength {s : State} {i : Nat} {c : Context} {a : SegmentArrival} (hc : ctxOf s i = some c)
    (h : segmentLength s i c a = none) (hfinal : a.final = true) (hnone : c.length = none) :
    Learnable s i (segmentEnd a) := by
  intro d hd
  obtain rfl := Option.some.inj (hc.symm.trans hd)
  unfold segmentLength at h
  simp only [hnone, hfinal, Bool.true_and] at h
  split at h
  · cases h
  · split at h
    · cases h
    · exact lengthTrue_of_no_conflict (Nat.not_lt.1 ‹_›) (by simpa using ‹¬ lengthConflict s i c (segmentEnd a) = true›)

/-! ## SEGMENT (R39 to R46) -/

theorem target_index_lt {s : State} {i : Nat} {c : Context} {a : SegmentArrival} {ts : List Target}
    (hok : segmentAdmission s i c a = .ok ts) :
    ∀ t ∈ ts, t.piece.index < extentCount (extentBytes s.extentSize) (segmentEnd a) := by
  intro t ht
  obtain ⟨hformat, hlength, rfl | ⟨-, rfl⟩⟩ := segmentAdmission_eq_ok hok
  · cases ht
  have hp : t.piece ∈ piecesOf (extentBytes s.extentSize) a.offset.toNat a.payload.length := by
    rw [← placedPieces_map_fst s i c a]
    exact (targetsOf_pieces_sublist _ _).subset (List.mem_map_of_mem ht)
  exact index_lt_extentCount (extentBytes_pos _) (segmentFormat_eq_none hformat).2.1 hp
    (pieceFits_of_segment hformat hlength _ hp).nonempty (le_refl _)

theorem target_index_nodup {s : State} {i : Nat} {c : Context} {a : SegmentArrival} {ts : List Target}
    (hok : segmentAdmission s i c a = .ok ts) : (ts.map (·.piece.index)).Nodup := by
  obtain ⟨-, -, rfl | ⟨-, rfl⟩⟩ := segmentAdmission_eq_ok hok
  · exact List.nodup_nil
  have hsub := (targetsOf_pieces_sublist s.freeSlots (placedPieces s i c a)).map (·.index)
  rw [List.map_map, placedPieces_map_fst] at hsub
  exact (piecesOf_index_nodup ..).sublist hsub

theorem trimPiece_le {rs : List (Nat × Nat)} {a b : Nat} : ∀ q ∈ trimPiece rs a b, q.1 ≤ b ∧ q.2 ≤ b := by
  intro q hq
  obtain ⟨hstop, hstart⟩ := trimPiece_bounds (P := (· ≤ b)) (fun g _ h => h.le) (fun h => h.le) q hq
  exact ⟨hstart, hstop⟩

theorem targetInPool_of_admission {s : State} {i : Nat} {c : Context} {a : SegmentArrival} {ts : List Target}
    (hok : segmentAdmission s i c a = .ok ts) (hpool : targetsInPool s ts = true) :
    ∀ t ∈ ts, TargetInPool s.extentSize t := by
  intro t ht
  refine ⟨by simpa using List.all_eq_true.1 hpool t ht, ?_⟩
  obtain ⟨hformat, hlength, rfl | ⟨-, rfl⟩⟩ := segmentAdmission_eq_ok hok
  · cases ht
  have hp : t.piece ∈ piecesOf (extentBytes s.extentSize) a.offset.toNat a.payload.length := by
    rw [← placedPieces_map_fst s i c a]
    exact (targetsOf_pieces_sublist _ _).subset (List.mem_map_of_mem ht)
  have hfits := pieceFits_of_segment hformat hlength _ hp
  have hstop : t.piece.stop ≤ extentBytes s.extentSize :=
    hfits.within.trans (extentLength_le (extentBytes_pos _) _ _)
  have hstart := hfits.nonempty
  intro q hq
  obtain ⟨-, hruns⟩ | ⟨rs, -, hruns⟩ := runs_of_mem_targetsOf ht
  · rw [hruns, List.mem_singleton] at hq
    subst hq
    exact ⟨by dsimp only; omega, hstop⟩
  · rw [hruns] at hq
    obtain ⟨h1, h2⟩ := trimPiece_le q hq
    omega

theorem works_segmentEffects {s : State} {i : Nat} {c : Context} {a : SegmentArrival} {ts : List Target}
    (hc : ctxOf s i = some c) (hrun : ts ≠ [] → c.state.running = true) (hok : segmentAdmission s i c a = .ok ts)
    (hpool : targetsInPool s ts = true) : Works s (segmentEffects s i c a ts) := by
  have hlength := (segmentAdmission_eq_ok hok).2.1
  have hcreate : Works s (createTargets s i ts) :=
    works_createTargets ts hc (fun t ht => createAllowed_of_target (hrun (List.ne_nil_of_mem ht)) hok t ht)
      (target_index_nodup hok)
  have hwrite : Works (createTargets s i ts) (ts.foldl (writeTarget a) (createTargets s i ts)) :=
    works_writeTargets a ts (by rw [createTargets_extentSize]; exact targetInPool_of_admission hok hpool)
  have hlearn : Works (ts.foldl (writeTarget a) (createTargets s i ts))
      (segmentLearn (ts.foldl (writeTarget a) (createTargets s i ts)) i c a) := by
    refine works_segmentLearn fun hfinal hnone => ?_
    refine List.foldlRecOn ts (writeTarget a) (motive := fun u => Learnable u i (segmentEnd a)) ?_
      fun u hu t _ => learnable_writeTarget hu a t
    exact learnable_createTargets ts hc (learnable_of_segmentLength hc hlength hfinal hnone) (target_index_lt hok)
  have hroute := Works.foldl (fun u t => routeComplete u t.slot) (fun u t => works_routeComplete u t.slot) ts
    (segmentLearn (ts.foldl (writeTarget a) (createTargets s i ts)) i c a)
  refine hcreate.trans (hwrite.trans (hlearn.trans (hroute.trans ?_)))
  show Works _ (segmentRestart _ i (newBytesOf ts))
  unfold segmentRestart
  split
  · exact .refl _
  · exact works_restartTimer ..

theorem works_segmentCount (s : State) (i : Nat) (link : Fin 4) (n len : Nat) : Works s (segmentCount s i link n len) := by
  refine (works_countLink s link fun _ h => linkCountersTrue_bytes h ..).trans (works_modCtx (fun c => ?_) fun c => ?_)
  · exact ⟨⟨rfl, rfl, rfl, rfl, rfl⟩, rfl, rfl, rfl, .inl rfl⟩
  · exact ⟨⟨rfl, rfl⟩, fun ⟨h1, h2, h3, h4, h5⟩ => ⟨counterTrue_add h1 _, counterTrue_add h2 _, h3, h4, h5⟩, id, id⟩

theorem outcomeSteps_handleSegment (s : State) (a : SegmentArrival) : OutcomeSteps s (handleSegment s a) := by
  unfold handleSegment
  dsimp only
  refine OutcomeSteps.after (works_arrived s a.link).steps ?_
  split
  · exact outcomeSteps_next (works_refuseUnknownStream ..).steps
  · rename_i i c hlookup
    have hc := ctxOf_of_lookupTag hlookup
    split
    · exact outcomeSteps_next (works_refuseArrival ..).steps
    · rename_i hfail
      split
      · exact outcomeSteps_next (works_refuseArrival ..).steps
      · rename_i ts hok
        split
        · refine outcomeSteps_next ((works_segmentEffects hc (fun hts => ?_) hok ‹_›).trans
            ((works_segmentCount ..).trans (works_answerMapped ..))).steps
          refine running_of_not_failed hfail fun hdone => hts ?_
          unfold segmentAdmission at hok
          split at hok
          · cases hok
          · split at hok
            · cases hok
            · rw [if_pos hdone] at hok
              cases hok
              rfl
        · intro t ht
          cases ht

/-! ## CHECK (R47, R48) -/

theorem createAllowed_of_checkPlace {s : State} {i k : Nat} {c : Context} {v : Pcv} (hrun : c.state.running = true)
    (h : checkPlace s i c k v = .create) : CreateAllowed s i c k := by
  unfold checkPlace at h
  dsimp only at h
  split at h
  · cases h
  rename_i hallowed
  split at h
  · cases h
  rename_i hupper
  split at h
  · cases h
  rename_i hlower
  have hbelow := (indexAllowed_iff.1 hallowed).2
  split at h
  · cases h
  · rename_i hwin
    exact ⟨hrun, Nat.not_lt.1 hlower, Nat.not_le.1 hupper, by simp [hwin], by simp [hwin], hbelow⟩
  · rename_i hwin
    split at h
    · exact ⟨hrun, Nat.not_lt.1 hlower, Nat.not_le.1 hupper, by simp [hwin], fun _ => ‹_›, hbelow⟩
    · split at h <;> cases h

theorem reduced_of_pcvValid {a b : Word} (h : pcvValid a b = true) : Reduced (pcvOfWords a b) :=
  (pcvValid_eq_true_iff a b).1 h

theorem works_handleCheck (s : State) (a : CheckArrival) : Works s (handleCheck s a) := by
  unfold handleCheck
  dsimp only
  refine (works_arrived s a.link).trans ?_
  split
  · exact works_refuseUnknownStream ..
  · rename_i i c hlookup
    have hc := ctxOf_of_lookupTag hlookup
    split
    · exact works_refuseArrival ..
    rename_i hfail
    split
    · exact works_answerMapped ..
    rename_i hdone
    split
    · exact works_refuseArrival ..
    rename_i hvalid
    have hv := reduced_of_pcvValid (a := a.s) (b := a.t) (by simpa using hvalid)
    split
    · exact works_refuseArrival ..
    · exact works_refuseArrival ..
    · exact works_answerMapped ..
    · exact works_answerMapped ..
    · exact works_refuseArrival ..
    · exact works_refuseArrival ..
    · exact ((works_storeCheck hv).trans (works_restartTimer ..)).trans (works_answerMapped ..)
    · rename_i hplace
      refine ((works_createExtent hc ?_ ?_).trans (works_restartTimer ..)).trans (works_answerMapped ..)
      · exact createAllowed_of_checkPlace (running_of_not_failed hfail hdone) hplace
      · intro w hw
        cases hw
        exact hv

/-! ## TRAILER (R49, R50) -/

theorem evalDone_of_no_length {s : State} {i : Nat} {c : Context} (hc : ctxOf s i = some c) (h : c.length = none) :
    evalDone s i = s := by
  rw [evalDone, hc]
  simp only [h]
  cases c.state <;> rfl

theorem works_storeObjectCheck {s : State} {i : Nat} {v : Pcv} (hv : Reduced v) : Works s (storeObjectCheck s i v) := by
  refine .trans (works_modCtx (fun c => ?_) fun c => ?_) (works_evalDone ..)
  · exact ⟨⟨rfl, rfl, rfl, rfl, rfl⟩, rfl, rfl, rfl, .inl rfl⟩
  · exact ⟨⟨rfl, rfl⟩, id, id, fun h => ⟨h.1, fun w hw => by cases hw; exact hv⟩⟩

theorem works_trailerStore {s : State} {i : Nat} {c : Context} {a : TrailerArrival} (h : trailerPcvBad a = false) :
    Works s (trailerStore s i c a) := by
  unfold trailerStore
  split
  · rename_i x y hpcv
    split
    · refine works_storeObjectCheck (reduced_of_pcvValid ?_)
      simpa [trailerPcvBad, hpcv] using h
    · exact .refl s
  · exact .refl s

/-- On a stream of unknown L the storing of an object value changes the value alone. -/
theorem trailerStore_of_no_length {s : State} {i : Nat} {c : Context} (hc : ctxOf s i = some c) (hnone : c.length = none)
    (a : TrailerArrival) :
    trailerStore s i c a = s ∨ ∃ v, trailerStore s i c a = setCtx s i { c with expected := some v } := by
  unfold trailerStore
  split
  · rename_i x y _
    split
    · refine .inr ⟨pcvOfWords x y, ?_⟩
      rw [storeObjectCheck_eq hc]
      exact evalDone_of_no_length (ctxOf_setCtx_same ..) hnone
    · exact .inl rfl
  · exact .inl rfl

theorem trailerCode_eq_none {s : State} {i : Nat} {c : Context} {a : TrailerArrival} (h : trailerCode s i c a = none) :
    a.length.toNat ≤ Config.maxObject ∧ trailerPcvBad a = false := by
  unfold trailerCode at h
  split at h
  · cases h
  · split at h
    · cases h
    · exact ⟨Nat.not_lt.1 ‹_›, by simpa using ‹¬ trailerPcvBad a = true›⟩

theorem works_trailerEffects {s : State} {i : Nat} {c : Context} {a : TrailerArrival} (hc : ctxOf s i = some c)
    (hcode : trailerCode s i c a = none) : Works s (trailerEffects s i c a) := by
  obtain ⟨hmax, hvalid⟩ := trailerCode_eq_none hcode
  have hlearn (hnone : c.length = none) : LearnAllowed (trailerStore s i c a) i a.length.toNat := by
    have hs := lengthTrue_of_no_conflict hmax (no_conflict_of_trailerCode hcode hnone)
    intro d hd _
    obtain heq | ⟨v, heq⟩ := trailerStore_of_no_length hc hnone a
    · rw [heq] at hd ⊢
      obtain rfl := Option.some.inj (hc.symm.trans hd)
      exact hs
    · rw [heq] at hd ⊢
      obtain rfl := Option.some.inj ((ctxOf_setCtx_same ..).symm.trans hd)
      exact hs
  refine (works_trailerStore (i := i) (c := c) hvalid).trans ?_
  have hsecond : Works (trailerStore s i c a)
      (if c.length.isNone = true then learnLength (trailerStore s i c a) i a.length.toNat else trailerStore s i c a) := by
    split
    · exact works_learnLength (hlearn (by simpa using ‹c.length.isNone = true›))
    · exact .refl _
  have hlast (u : State) :
      Works u (if (a.pcv.isSome && c.expected.isNone) = true then restartTimer u i else u) := by
    split
    · exact works_restartTimer ..
    · exact .refl _
  exact hsecond.trans (hlast _)

theorem works_handleTrailer (s : State) (a : TrailerArrival) : Works s (handleTrailer s a) := by
  unfold handleTrailer
  dsimp only
  refine (works_arrived s a.link).trans ?_
  split
  · exact works_refuseUnknownStream ..
  · rename_i i c hlookup
    split
    · exact works_refuseArrival ..
    · split
      · exact works_answerMapped ..
      · exact works_answerMapped ..
      · exact works_refuseArrival ..
      · exact (works_trailerEffects (ctxOf_of_lookupTag hlookup) ‹_›).trans (works_answerMapped ..)

/-! ## The rows of the segment port -/

/-- The input queue may grow to its capacity. -/
theorem steps_inputQueue {s : State} {l : List Arrival} (h : QueuesBounded s → l.length ≤ Config.inputCapacity) :
    Steps s { s with inputQueue := l } :=
  steps_same ⟨rfl, rfl, rfl, rfl, rfl, rfl, rfl, ⟨id, id, id, id, fun hq => ⟨h hq, hq.2⟩, id⟩⟩ rfl

theorem steps_dequeue {s : State} {a : Arrival} {rest : List Arrival} (h : s.inputQueue = a :: rest) :
    Steps s { s with inputQueue := rest } := by
  refine steps_inputQueue fun hq => ?_
  have := hq.1
  rw [h, List.length_cons] at this
  omega

theorem outcomeSteps_execSegment (s : State) : OutcomeSteps s (execSegment s) := by
  unfold execSegment
  split
  · exact .after (steps_dequeue ‹_›) (outcomeSteps_handleSegment _ _)
  · exact outcomeSteps_self s

theorem outcomeSteps_execCheck (s : State) : OutcomeSteps s (execCheck s) := by
  unfold execCheck
  split
  · exact outcomeSteps_next ((steps_dequeue ‹_›).trans (works_handleCheck ..).steps)
  · exact outcomeSteps_self s

theorem outcomeSteps_execTrailer (s : State) : OutcomeSteps s (execTrailer s) := by
  unfold execTrailer
  split
  · exact outcomeSteps_next ((steps_dequeue ‹_›).trans (works_handleTrailer ..).steps)
  · exact outcomeSteps_self s

theorem outcomeSteps_execUnknownKind (s : State) : OutcomeSteps s (execUnknownKind s) := by
  unfold execUnknownKind
  split
  · rename_i a rest hqueue _
    refine outcomeSteps_next ((steps_dequeue hqueue).trans (.trans (works_countLink { s with inputQueue := rest } a.link
      (f := fun k => k.arrival.refusal) fun _ h => linkCountersTrue_refusal (linkCountersTrue_arrival h)).steps ?_))
    exact steps_same ⟨rfl, rfl, rfl, rfl, rfl, rfl, rfl, ⟨id, id, id, id, id, id⟩⟩ rfl
  · exact outcomeSteps_self s

theorem outcomeSteps_execArrivalDelivery (a : Arrival) (s : State) : OutcomeSteps s (execArrivalDelivery a s) := by
  unfold execArrivalDelivery
  split
  · exact outcomeSteps_self s
  · rename_i hstop
    refine outcomeSteps_next (steps_inputQueue fun _ => ?_)
    simp only [stopAsserted, ge_iff_le, decide_eq_true_eq, Nat.not_le] at hstop
    simpa using hstop

theorem outcomeSteps_execDispositionAccept (s : State) : OutcomeSteps s (execDispositionAccept s) := by
  unfold execDispositionAccept
  split
  · exact outcomeSteps_self s
  · exact outcomeSteps_next (steps_same ⟨rfl, rfl, rfl, rfl, rfl, rfl, rfl, ⟨id, id, id, id, id, id⟩⟩ rfl)

end Sys2Proof.Machine
end

section
/-! PROOFS. The drain port, the control port and the timers as chains of moves; with the segment port, every step of the
machine. -/
namespace Sys2Proof.Machine

/-! ## The drain port (R143, R148 to R151, R162) -/

theorem works_handOutN (n : Nat) {s : State} (q : Fin 4) (hroom : s.claims.length + n ≤ Config.claimCapacity) :
    Works s (handOutN n s q).1 := by
  induction n generalizing s with
  | zero => exact .refl s
  | succ n ih =>
    cases hq : s.ready[q] with
    | nil => rw [handOutN_of_nil hq]; exact .refl s
    | cons h rest =>
      rw [handOutN_of_cons hq]
      refine ((Move.handOut hq (by omega)).works ⟨rfl, rfl, rfl, rfl⟩).trans (ih ?_)
      simp only [handOut, List.length_append, List.length_singleton]
      omega

theorem works_readReady (q : Fin 4) (count : Nat) (s : State) : Works s (readReady q count s).1 := by
  by_cases hroom : s.claims.length ≤ Config.claimCapacity
  · refine works_handOutN _ q ?_
    unfold readyRun freeClaims
    split <;> omega
  · have hnone : readyRun s q count = 0 := by
      unfold readyRun freeClaims
      split <;> omega
    simp only [readReady, hnone]
    exact .refl s

theorem works_walkPosition {s : State} (hroom : s.claims.length < Config.claimCapacity) (remaining : Nat) :
    Works s (walkPosition s remaining).1 := by
  refine (works_handOutN (visitCount s remaining) s.cursor.queue ?_).trans
    (works_same ⟨rfl, rfl, rfl, rfl, rfl, rfl, rfl, ⟨id, id, id, id, id, id⟩⟩ ⟨rfl, rfl, rfl, rfl⟩)
  unfold visitCount freeClaims
  split <;> omega

theorem works_chainWalk (fuel : Nat) (s : State) (remaining idle : Nat) :
    Works s (chainWalk fuel s remaining idle).1 := by
  induction fuel generalizing s remaining idle with
  | zero => exact .refl s
  | succ fuel ih =>
    by_cases hfree : s.claims.length < 64
    · have hposition := works_walkPosition hfree remaining
      by_cases hstop : remaining - visitCount s remaining = 0 ∨ (visitCount s remaining = 0 ∧ idle = 3)
      · rw [chainWalk_of_stop hfree hstop]
        exact hposition
      · rw [not_or] at hstop
        rw [chainWalk_of_go hfree hstop.1 hstop.2]
        exact hposition.trans (ih ..)
    · rw [chainWalk_of_full (Nat.not_lt.1 hfree)]
      exact .refl s

/-- Context `c` with one more store failure counted (R148). -/
def storeFailureCounted (c : Context) : Context :=
  { c with counters := { c.counters with storeFailures := c.counters.storeFailures.add Config.max16 1 } }

theorem works_countRelease {s : State} {i : Nat} (outcome : StoreOutcome) : Works s (countRelease s i outcome) := by
  cases outcome with
  | stored => exact .refl s
  | failedStore =>
    refine works_modCtx (f := storeFailureCounted) (fun c => ?_) fun c => ⟨⟨rfl, rfl⟩, ?_, id, id⟩
    · exact ⟨⟨rfl, rfl, rfl, rfl, rfl⟩, rfl, rfl, rfl, .inl rfl⟩
    · exact fun ⟨h1, h2, h3, h4, h5⟩ => ⟨h1, h2, h3, h4, counterTrue_add h5 1⟩

/-- The counting of a release leaves the state and the queue of its stream. -/
theorem ctxOf_countRelease {s : State} {i : Nat} {c : Context} (hc : ctxOf s i = some c) (outcome : StoreOutcome) :
    ∃ d, ctxOf (countRelease s i outcome) i = some d ∧ d.state = c.state ∧ d.queue = c.queue := by
  cases outcome with
  | stored => exact ⟨c, hc, rfl, rfl⟩
  | failedStore =>
    refine ⟨storeFailureCounted c, ?_, rfl, rfl⟩
    rw [countRelease, countStoreFailure, modCtx_of_some hc]
    exact ctxOf_setCtx_same ..

/-- The release of a claim on a stream in WITHDRAWING (R15): its record is dropped, and the last one takes the stream to
FAILED. -/
theorem works_releaseWithdrawn {s : State} {slot : Nat} {r : Extent} {c : Context} (hr : tabGet s.extents slot = some r)
    (hc : ctxOf s r.stream = some c) (hst : c.state = .withdrawing) : Works s (releaseWithdrawn s slot r.stream) := by
  have hdrop := dropped_freeExtent hr hc
  have hctx : ctxOf (freeExtent s slot) r.stream = some (freedContext c r) := by
    rw [ctxOf, hdrop.contexts, tabGet_tabSet_same]
  have hsub (hstream : StreamTrue s r.stream c) (x : Nat × Extent) (hx : x ∈ recordsOf (freeExtent s slot) r.stream) :
      x.2.state = .claimed := by
    have hstate := hstream.1
    unfold StateTrue at hstate
    rw [hst] at hstate
    exact hstate.2.2.2 x (hdrop.recordsOf_subset r.stream x hx).1
  unfold releaseWithdrawn
  dsimp only
  split
  · rw [modCtx_of_some hctx]
    refine works_drop (hdrop.setCtx ?_) ?_ fun hstream => ⟨?_, ?_⟩
    · exact ⟨rfl, rfl, rfl, rfl, rfl⟩
    · refine ⟨⟨rfl, rfl⟩, id, fun h => ?_, id⟩
      obtain ⟨ha, hb, hcount, hgap, habandon, hoff⟩ := h
      exact ⟨ha, hb, hcount, hgap, habandon, fun _ => hoff (by rw [hst]; rfl)⟩
    · have hstate := hstream.1
      unfold StateTrue at hstate
      rw [hst] at hstate
      exact ⟨rfl, hstate.2.1, fun x hx => .inr (hsub hstream x hx)⟩
    · exact (hdrop.setCtx (e := { freedContext c r with state := .failed, cause := some .aborted })
        ⟨rfl, rfl, rfl, rfl, rfl⟩).lengthTrue rfl (fun h => by cases h) hstream.2
  · rename_i hremain
    refine works_drop hdrop (valuesKept_freedContext c r) fun hstream => ⟨?_, hdrop.lengthTrue rfl id hstream.2⟩
    have hstate := hstream.1
    unfold StateTrue at hstate ⊢
    rw [hst] at hstate
    rw [show (freedContext c r).state = .withdrawing from hst]
    refine ⟨hstate.1, hstate.2.1, fun hnil => hremain ?_, hsub hstream⟩
    simp [slotsOf, hnil]

theorem works_requeueExtent {s : State} {h : Handle} {r : Extent} {c : Context} (hj : judgeHandle s h = .ok (r, c))
    (hst : c.state ≠ .withdrawing) (hlimit : r.storeAttempts + 1 < s.storeLimit) :
    Works s (requeueExtent s h r c.queue) :=
  (Move.requeue hj hst hlimit).works ⟨rfl, rfl, rfl, rfl⟩

/-- A handle is judged by the generations, the slot count, the claims, the records and the contexts. -/
theorem judgeHandle_countRelease {s : State} {h : Handle} {r : Extent} {c : Context}
    (hj : judgeHandle s h = .ok (r, c)) {outcome : StoreOutcome} {d : Context}
    (hd : ctxOf (countRelease s r.stream outcome) r.stream = some d) :
    judgeHandle (countRelease s r.stream outcome) h = .ok (r, d) := by
  have hheld : HeldWork s (countRelease s r.stream outcome) := by
    cases outcome
    · exact .refl s
    · exact heldWork_modCtx ..
  have hframe : (countRelease s r.stream outcome).gens = s.gens ∧ (countRelease s r.stream outcome).claims = s.claims := by
    cases outcome
    · exact ⟨rfl, rfl⟩
    · exact ⟨modCtx_gens .., modCtx_claims ..⟩
  obtain ⟨hclaim, hr, hc⟩ := judgeHandle_eq_ok hj
  unfold judgeHandle at hj ⊢
  rw [genOf, hframe.1, hframe.2, hheld.extentSize, (countRelease_frame ..).1]
  rw [genOf] at hj
  split at hj
  · cases hj
  · split at hj
    · rw [if_neg ‹_›, if_pos ‹_›, hr]
      simp only [hd]
    · cases hj

theorem works_releaseClaim {s : State} {h : Handle} {r : Extent} {c : Context} (hj : judgeHandle s h = .ok (r, c))
    (outcome : StoreOutcome) : Works s (releaseClaim s h r c outcome).1 := by
  obtain ⟨-, hr, hc⟩ := judgeHandle_eq_ok hj
  obtain ⟨d, hd, hstate, hqueue⟩ := ctxOf_countRelease hc outcome
  have hr' : tabGet (countRelease s r.stream outcome).extents h.slot = some r := by rwa [(countRelease_frame ..).1]
  have hlimit : (countRelease s r.stream outcome).storeLimit = s.storeLimit := by
    cases outcome
    · rfl
    · exact modCtx_storeLimit ..
  refine (works_countRelease (i := r.stream) outcome).trans ?_
  unfold releaseClaim
  dsimp only
  split
  · rename_i hst
    exact works_releaseWithdrawn hr' hd (hstate.trans hst)
  · rename_i hst
    have hfree := works_freeExtent hr' hd (by rwa [hstate])
    cases outcome with
    | stored => exact hfree
    | failedStore =>
      dsimp only
      split
      · rw [← hqueue]
        exact works_requeueExtent (judgeHandle_countRelease hj hd) (by rwa [hstate]) (by rwa [hlimit])
      · exact hfree.trans (works_failStream ..)

theorem works_releaseHandle (h : Handle) (outcome : StoreOutcome) (s : State) :
    Works s (releaseHandle h outcome s).1 := by
  unfold releaseHandle
  split
  · exact .refl s
  · exact works_releaseClaim ‹_› outcome

theorem outcomeSteps_takeRequest {s : State} {body : State → State × DrainAnswer} (hbody : Works s (body s).1) :
    OutcomeSteps s (takeRequest s body) := by
  obtain ⟨-, heq⟩ | ⟨-, heq⟩ := takeRequest_cases s body
  · rw [heq]
    exact outcomeSteps_self s
  · rw [heq]
    exact outcomeSteps_next (hbody.steps.trans (steps_same ⟨rfl, rfl, rfl, rfl, rfl, rfl, rfl, ⟨id, id, id, id, id, id⟩⟩ rfl))

theorem outcomeSteps_execDrainAnswerAccept (s : State) : OutcomeSteps s (execDrainAnswerAccept s) := by
  unfold execDrainAnswerAccept
  split
  · exact outcomeSteps_self s
  · exact outcomeSteps_next (steps_same ⟨rfl, rfl, rfl, rfl, rfl, rfl, rfl, ⟨id, id, id, id, id, id⟩⟩ rfl)

/-! ## The control port: commands that touch no held work -/

/-- The command queue may shrink. -/
theorem steps_dequeueCommand {s : State} {c : CommandRecord} {rest : List CommandRecord} (h : s.commands = c :: rest) :
    Steps s { s with commands := rest } := by
  refine steps_same ⟨rfl, rfl, rfl, rfl, rfl, rfl, rfl, ⟨id, id, id, id, fun hq => ⟨hq.1, ?_, hq.2.2⟩, id⟩⟩ rfl
  have := hq.2.1
  rw [h, List.length_cons] at this
  dsimp only
  omega

/-- A response is placed where the response queue has a free entry (R188). -/
theorem steps_placeResponse (tag : BitVec 16) {r : Reply} (h : r.state.responses.length < Config.responseCapacity) :
    Steps r.state (placeResponse tag r) := by
  refine steps_same ⟨rfl, rfl, rfl, rfl, rfl, rfl, rfl, ⟨id, id, id, id, fun hq => ⟨hq.1, hq.2.1, ?_⟩, id⟩⟩ rfl
  simpa [placeResponse] using h

theorem works_runCommand (k : CommandKind) (args : List Word) {body : List Word → State → Reply}
    (hbody : ∀ args u, Works u (body args u).state) (s : State) : Works s (runCommand k args s body).state := by
  unfold runCommand
  split
  · exact .refl s
  · exact hbody ..

theorem outcomeSteps_takeCommand (k : CommandKind) {body : List Word → State → Reply}
    (hbody : ∀ args u, Works u (body args u).state) (s : State) : OutcomeSteps s (takeCommand k body s) := by
  obtain heq | ⟨c, rest, hcommands, -, hroom, heq⟩ := takeCommand_cases k body s
  · rw [heq]
    exact outcomeSteps_self s
  · rw [heq]
    have hrun := works_runCommand k c.args hbody { s with commands := rest }
    refine outcomeSteps_next ((steps_dequeueCommand hcommands).trans (hrun.steps.trans (steps_placeResponse _ ?_)))
    rw [hrun.ports.responses]
    exact hroom

theorem works_ackAttention (args : List Word) (s : State) : Works s (ackAttention args s).state := by
  cases hd : mostUrgent s.priority (attentionClasses.filter (classEligible s)) with
  | none =>
    rw [ackAttention_of_none hd]
    exact .refl s
  | some d =>
    rw [ackAttention_of_some hd]
    have helig := (mostUrgent_eligible hd).1
    exact works_same ⟨rfl, rfl, rfl, rfl, rfl, rfl, rfl, ⟨id, servicesDistinct_serve helig, id, id, id, id⟩⟩
      ⟨rfl, rfl, rfl, rfl⟩

theorem getElem_set_ne {α : Type} {n : Nat} {v : Vector α n} {c d : Fin n} (h : d ≠ c) (x : α) : (v.set c x)[d] = v[d] := by
  have hne : c.val ≠ d.val := fun e => h (Fin.ext e.symm)
  simp [hne]

theorem works_endAttention (args : List Word) (s : State) : Works s (endAttention args s).state := by
  unfold endAttention
  split
  · exact .refl s
  · dsimp only
    split
    · refine works_same ⟨rfl, rfl, rfl, rfl, rfl, rfl, rfl, ⟨id, fun h a b ha hb => ?_, id, id, id, id⟩⟩
        ⟨rfl, rfl, rfl, rfl⟩
      have hback (d : Fin 8) (hd : (s.inService.set (Fin.ofNat 8 (arg8 args 0)) false)[d] = true) :
          s.inService[d] = true := by
        by_cases hdc : d = Fin.ofNat 8 (arg8 args 0)
        · subst hdc
          simp at hd
        · rwa [getElem_set_ne hdc] at hd
      exact h a b (hback a ha) (hback b hb)
    · exact .refl s

theorem works_setClass (args : List Word) (s : State) : Works s (setClass args s).state := by
  unfold setClass
  split
  · exact .refl s
  · dsimp only
    split
    · exact .refl s
    · rename_i hidle
      refine works_same ⟨rfl, rfl, rfl, rfl, rfl, rfl, rfl, ⟨id, fun h a b ha hb hab => ?_, fun h => ?_, id, id, id⟩⟩
        ⟨rfl, rfl, rfl, rfl⟩
      · have hne (d : Fin 8) (hd : s.inService[d] = true) : d ≠ Fin.ofNat 8 (arg8 args 0) := by
          rintro rfl
          exact hidle hd
        dsimp only [accept] at hab
        rw [getElem_set_ne (hne a ha), getElem_set_ne (hne b hb)] at hab
        exact h a b ha hb hab
      · obtain ⟨hlow, hparams, hlimit, hpriority, hthreshold⟩ := h
        refine ⟨hlow, hparams, hlimit, fun d => ?_, hthreshold⟩
        dsimp only [accept]
        by_cases hd : d = Fin.ofNat 8 (arg8 args 0)
        · subst hd
          simp
        · rw [getElem_set_ne hd]
          exact hpriority d

theorem works_setThreshold (args : List Word) (s : State) : Works s (setThreshold args s).state := by
  refine works_same ⟨rfl, rfl, rfl, rfl, rfl, rfl, rfl, ⟨id, id, fun h => ?_, id, id, id⟩⟩ ⟨rfl, rfl, rfl, rfl⟩
  obtain ⟨hlow, hparams, hlimit, hpriority, -⟩ := h
  exact ⟨hlow, hparams, hlimit, hpriority, Nat.min_le_left ..⟩

theorem works_setQueue (args : List Word) (s : State) : Works s (setQueue args s).state := by
  unfold setQueue
  split
  · exact .refl s
  · refine works_same ⟨rfl, rfl, rfl, rfl, rfl, rfl, rfl, ⟨id, id, fun h => ?_, id, id, id⟩⟩ ⟨rfl, rfl, rfl, rfl⟩
    obtain ⟨hlow, hparams, hlimit, hpriority, hthreshold⟩ := h
    refine ⟨hlow, fun q => ?_, hlimit, hpriority, hthreshold⟩
    dsimp only [accept]
    by_cases hq : q = Fin.ofNat 4 (arg32 args 0)
    · subst hq
      simp [clamp]
    · rw [getElem_set_ne hq]
      exact hparams q

theorem works_setStoreLimit (args : List Word) (s : State) : Works s (setStoreLimit args s).state := by
  refine works_same ⟨rfl, rfl, rfl, rfl, rfl, rfl, rfl, ⟨id, id, fun h => ?_, id, id, id⟩⟩ ⟨rfl, rfl, rfl, rfl⟩
  obtain ⟨hlow, hparams, -, hpriority, hthreshold⟩ := h
  exact ⟨hlow, hparams, by simp [setStoreLimit, accept, clamp], hpriority, hthreshold⟩

theorem arg16_le (args : List Word) (n : Nat) : arg16 args n ≤ 65535 := by
  unfold arg16
  omega

theorem works_setTimerDefaults (args : List Word) (s : State) : Works s (setTimerDefaults args s).state :=
  works_same ⟨rfl, rfl, rfl, rfl, rfl, rfl, rfl, ⟨id, id, id, fun _ => ⟨arg16_le .., arg16_le ..⟩, id, id⟩⟩
    ⟨rfl, rfl, rfl, rfl⟩

theorem works_releaseHold (args : List Word) (s : State) : Works s (releaseHold args s).state := by
  unfold releaseHold
  split
  · exact .refl s
  · exact works_same ⟨rfl, rfl, rfl, rfl, rfl, rfl, rfl, ⟨id, id, id, id, id, id⟩⟩ ⟨rfl, rfl, rfl, rfl⟩

theorem linkCountersTrue_zero (l : Fin 4) : LinkCountersTrue (Vector.replicate 4 LinkCounters.zero)[l] := by
  have h : LinkCountersTrue .zero :=
    ⟨counterTrue_zero (by decide), counterTrue_zero (by decide), counterTrue_zero (by decide),
      counterTrue_zero (by decide), counterTrue_zero (by decide)⟩
  simpa using h

theorem works_snapshotCommand (args : List Word) (s : State) : Works s (snapshotCommand args s).state := by
  unfold snapshotCommand
  split
  · exact .refl s
  · refine works_same ⟨rfl, rfl, rfl, rfl, rfl, rfl, rfl, ⟨fun h => ?_, id, id, id, id, id⟩⟩ ⟨rfl, rfl, rfl, rfl⟩
    dsimp only [accept]
    split
    · exact linkCountersTrue_zero
    · exact h

theorem works_readSnapshot (args : List Word) (s : State) : Works s (readSnapshot args s).state := by
  unfold readSnapshot
  split
  · exact .refl s
  · exact works_same ⟨rfl, rfl, rfl, rfl, rfl, rfl, rfl, ⟨id, id, id, id, id, id⟩⟩ ⟨rfl, rfl, rfl, rfl⟩

theorem works_queryStream (args : List Word) (s : State) : Works s (queryStream args s).state := by
  unfold queryStream
  split <;> exact .refl s

/-! ## The control port: changes of contexts -/

theorem works_fetchNotices (args : List Word) (s : State) : Works s (fetchNotices args s).state := by
  unfold fetchNotices
  dsimp only
  split
  · exact .refl s
  · refine Works.foldl (clearNoticeAt (arg8 args 0)) (fun u i => works_modCtx (fun c => ?_) fun c => ?_) _ s
    · exact ⟨⟨rfl, rfl, rfl, rfl, rfl⟩, rfl, rfl, rfl, .inl rfl⟩
    · exact valuesKept_of_eq ⟨rfl, rfl⟩ rfl ⟨rfl, rfl, rfl⟩ (.inr ⟨rfl, rfl⟩) rfl rfl

theorem works_readStreamCounters (args : List Word) (s : State) : Works s (readStreamCounters args s).state := by
  unfold readStreamCounters
  split
  · exact .refl s
  · rename_i i c hlookup
    show Works s (if argBool args 1 = true then setCtx s i { c with counters := .zero } else s)
    split
    · exact works_setCtx (ctxOf_of_lookupTag hlookup) ⟨⟨rfl, rfl, rfl, rfl, rfl⟩, rfl, rfl, rfl, .inl rfl⟩
        ⟨⟨rfl, rfl⟩, fun _ => streamCountersTrue_zero, id, id⟩
    · exact .refl s

theorem quiet_setTimers {c : Context} (hrun : c.state.running = true) (a b : Nat) : Quiet c (setTimers a b c) :=
  ⟨⟨rfl, rfl, rfl, rfl, rfl⟩, rfl, rfl, rfl, .inr hrun⟩

theorem valuesKept_setTimers {c : Context} (hrun : c.state.running = true) {a b : Nat} (ha : a ≤ 65535)
    (hb : b ≤ 65535) : ValuesKept c (setTimers a b c) :=
  ⟨⟨rfl, rfl⟩, id, fun _ => timerTrue_startTimer ha hb hrun, id⟩

theorem works_setStreamTimers (args : List Word) (s : State) : Works s (setStreamTimers args s).state := by
  unfold setStreamTimers
  split
  · exact .refl s
  · rename_i i c hlookup
    split
    · rename_i hrun
      exact works_setCtx (ctxOf_of_lookupTag hlookup) (quiet_setTimers hrun ..)
        (valuesKept_setTimers hrun (arg16_le ..) (arg16_le ..))
    · exact .refl s

theorem works_foldl_setTimers {a b : Nat} (ha : a ≤ 65535) (hb : b ≤ 65535) (l : List Nat) {s : State}
    (hrun : ∀ i ∈ l, ∀ c, ctxOf s i = some c → c.state.running = true) :
    Works s (l.foldl (fun u i => modCtx u i (setTimers a b)) s) := by
  induction l generalizing s with
  | nil => exact .refl s
  | cons i l ih =>
    obtain ⟨hi, hrest⟩ := List.forall_mem_cons.1 hrun
    have hmove : Works s (modCtx s i (setTimers a b)) := by
      cases hc : ctxOf s i with
      | none => rw [modCtx_of_none hc]; exact .refl s
      | some c =>
        rw [modCtx_of_some hc]
        exact works_setCtx hc (quiet_setTimers (hi c hc) ..) (valuesKept_setTimers (hi c hc) ha hb)
    refine hmove.trans (ih fun j hj c hc => ?_)
    rw [ctxOf_modCtx] at hc
    split at hc
    · obtain ⟨d, hd, rfl⟩ := Option.map_eq_some_iff.1 hc
      exact hi d hd
    · exact hrest j hj c hc

theorem mem_streamsWhere {s : State} (hw : tabWf s.contexts = true) {p : Context → Bool} {i : Nat} :
    i ∈ streamsWhere s p ↔ ∃ c, ctxOf s i = some c ∧ p c = true := by
  simp only [streamsWhere, List.mem_map, List.mem_filter, Prod.exists, exists_and_right, exists_eq_right]
  exact exists_congr fun c => and_congr_left fun _ => mem_iff_tabGet hw

theorem works_setGroupTimers (args : List Word) (s : State) : Works s (setGroupTimers args s).state := by
  unfold setGroupTimers
  dsimp only
  split
  · exact .refl s
  · refine ⟨fun hw => (works_foldl_setTimers (arg16_le ..) (arg16_le ..) _ fun i hi c hc => ?_).chain hw,
      (HeldWork.foldl _ (fun _ _ => heldWork_modCtx ..) _ s).portsKept⟩
    obtain ⟨d, hd, hmember⟩ := (mem_streamsWhere hw.contexts).1 hi
    obtain rfl := Option.some.inj (hc.symm.trans hd)
    simp only [Bool.and_eq_true] at hmember
    exact hmember.2

/-! ## The control port: streams, expected values, the pool and the engine -/

theorem freshContext_openWithLength {s : State} {a : OpenArgs} (h : openBad a = false)
    (htimers : ∀ t, a.timers = some t → t.1 ≤ 65535 ∧ t.2 ≤ 65535) :
    FreshContext s (openWithLength (openContext s a) a.length) := by
  unfold openBad at h
  simp only [Bool.or_eq_false_iff, decide_eq_false_iff_not, Nat.not_lt] at h
  obtain ⟨⟨⟨hgroup, -⟩, hlength⟩, hexpected⟩ := h
  have htimer (htimers' : TimersTrue s) : TimerTrue (openContext s a) := by
    refine timerTrue_startTimer (c := openContext s a) ?_ ?_ rfl
    · simp only [openContext]
      cases ht : a.timers with
      | none => exact htimers'.1
      | some t => exact (htimers t ht).1
    · simp only [openContext]
      cases ht : a.timers with
      | none => exact htimers'.2.1
      | some t => exact (htimers t ht).2
  have hreduced : CtxReduced (openContext s a) := by
    refine ⟨reduced_zero, fun v hv => ?_⟩
    cases hp : a.expected with
    | none => simp [openContext, hp] at hv
    | some p =>
      simp only [openContext, hp, Option.map_some, Option.mem_def, Option.some.injEq] at hv
      rw [← hv]
      exact reduced_of_pcvValid (by simpa [hp] using hexpected)
  have hsettings : (openContext s a).group ≤ 15 ∧ (openContext s a).retryLimit ≤ 7 := ⟨hgroup, Nat.min_le_left ..⟩
  cases hl : a.length with
  | none => exact ⟨.inl ⟨rfl, rfl⟩, rfl, rfl, rfl, rfl, hsettings, rfl, htimer, hreduced⟩
  | some l =>
    rw [hl] at hlength
    exact ⟨.inr ⟨rfl, l, by simpa using hlength, rfl⟩, rfl, rfl, rfl, rfl, hsettings, rfl, htimer, hreduced⟩

theorem openArgs_timers (args : List Word) : ∀ t, (openArgs args).timers = some t → t.1 ≤ 65535 ∧ t.2 ≤ 65535 := by
  intro t ht
  unfold openArgs at ht
  dsimp only at ht
  split at ht
  · cases ht
    have hword : arg32 args 6 < 2 ^ 32 := (argWord args 6).isLt
    dsimp only
    omega
  · cases ht

theorem openWithLength_tag (c : Context) (l : Option Nat) : (openWithLength c l).tag = c.tag := by
  cases l <;> rfl

theorem works_openStream (args : List Word) (s : State) : Works s (openStream args s).state := by
  unfold openStream
  dsimp only
  split
  · exact .refl s
  rename_i hbad
  split
  · exact .refl s
  rename_i htag
  split
  · exact .refl s
  · rename_i i hi
    obtain ⟨-, hlt, hfree, -⟩ := tabLowestFree_spec hi
    refine .trans ((Move.opens (by simpa using hlt) hfree ?_ (freshContext_openWithLength (by simpa using hbad)
      (openArgs_timers args))).works ⟨rfl, rfl, rfl, rfl⟩) (works_evalDone ..)
    rw [openWithLength_tag]
    show lookupTag s (openArgs args).tag = none
    simpa using htag

theorem works_closeStream (args : List Word) (s : State) : Works s (closeStream args s).state := by
  unfold closeStream
  split
  · exact .refl s
  · rename_i i c hlookup
    split
    · rename_i hidle
      exact (Move.close (ctxOf_of_lookupTag hlookup) hidle.2).works ⟨rfl, rfl, rfl, rfl⟩
    · exact .refl s

theorem works_abortStream (args : List Word) (s : State) : Works s (abortStream args s).state := by
  unfold abortStream
  split
  · exact .refl s
  · rename_i i c hlookup
    split
    · exact .refl s
    · exact works_abortStreamAt (ctxOf_of_lookupTag hlookup)

theorem works_foldl_abortStreamAt (l : List Nat) {s : State}
    (hctx : ∀ i ∈ l, (ctxOf s i).isSome = true) : Works s (l.foldl abortStreamAt s) := by
  induction l generalizing s with
  | nil => exact .refl s
  | cons i l ih =>
    obtain ⟨hi, hrest⟩ := List.forall_mem_cons.1 hctx
    obtain ⟨x, hx⟩ := Option.isSome_iff_exists.1 hi
    refine ⟨fun hw => ?_, (HeldWork.foldl _ heldWork_abortStreamAt (i :: l) s).portsKept⟩
    obtain ⟨d, hfreed⟩ := withdrawExtents_freedRecords hw.extents hx
    refine ((works_abortStreamAt hx).trans (ih fun j hj => ?_)).chain hw
    rw [abortStreamAt_eq hw.extents hx hfreed, ctxOf_setCtx]
    split
    · rfl
    · rw [hfreed.contexts, if_neg ‹_›]
      exact hrest j hj

theorem works_abortGroup (args : List Word) (s : State) : Works s (abortGroup args s).state := by
  unfold abortGroup
  dsimp only
  split
  · exact .refl s
  · refine ⟨fun hw => (works_foldl_abortStreamAt _ fun i hi => ?_).chain hw,
      (HeldWork.foldl _ heldWork_abortStreamAt _ s).portsKept⟩
    obtain ⟨c, hc, -⟩ := (mem_streamsWhere hw.contexts).1 hi
    rw [hc]
    rfl

theorem works_supplyCheck (args : List Word) (s : State) : Works s (supplyCheck args s).state := by
  unfold supplyCheck
  split
  · exact .refl s
  rename_i hvalid
  have hv := reduced_of_pcvValid (a := argWord args 2) (b := argWord args 3) (by simpa using hvalid)
  split
  · exact .refl s
  · rename_i i c hlookup
    split
    · exact .refl s
    rename_i hfail
    split
    · exact .refl s
    rename_i hdone
    dsimp only
    split
    · exact .refl s
    · exact .refl s
    · exact .refl s
    · exact .refl s
    · exact .refl s
    · exact .refl s
    · exact (works_storeCheck hv).trans (works_restartTimer ..)
    · refine (works_createExtent (ctxOf_of_lookupTag hlookup) ?_ ?_).trans (works_restartTimer ..)
      · exact createAllowed_of_checkPlace (running_of_not_failed hfail hdone) ‹_›
      · intro w hw
        cases hw
        exact hv

theorem works_supplyObjectCheck (args : List Word) (s : State) : Works s (supplyObjectCheck args s).state := by
  unfold supplyObjectCheck
  split
  · exact .refl s
  rename_i hvalid
  split
  · exact .refl s
  · split
    · exact .refl s
    · dsimp only
      split
      · split <;> exact .refl s
      · split
        · exact .refl s
        · exact (works_storeObjectCheck (reduced_of_pcvValid (by simpa using hvalid))).trans (works_restartTimer ..)

theorem works_configurePool (args : List Word) (s : State) : Works s (configurePool args s).state := by
  unfold configurePool
  split
  · rename_i hidle
    exact (Move.configure _ _ (List.isEmpty_iff.1 hidle.1) (List.isEmpty_iff.1 hidle.2) (Nat.min_le_left ..)).works
      ⟨rfl, rfl, rfl, rfl⟩
  · exact .refl s

theorem works_resetEngine (args : List Word) (s : State) : Works s (resetEngine args s).state := by
  rw [resetEngine_eq]
  have hcleared (gens : Table (BitVec 8)) : ClearedWork (engineReset s gens) :=
    ⟨rfl, rfl, rfl, fun q => Vector.getElem_replicate .., rfl⟩
  show Works s (engineReset s _)
  refine (Move.clear (s := s) (hcleared _) ⟨fun _ => linkCountersTrue_zero, fun _ c _ hc => ?_, id, id, id, id⟩).works
    ⟨rfl, rfl, rfl, rfl⟩
  simp [engineReset] at hc

theorem outcomeSteps_execUnknownCommand (s : State) : OutcomeSteps s (execUnknownCommand s) := by
  unfold execUnknownCommand
  split
  · exact outcomeSteps_self s
  · rename_i c rest hcommands
    split
    · rename_i htaken
      exact outcomeSteps_next ((steps_dequeueCommand hcommands).trans
        (steps_placeResponse c.tag (r := refuse { s with commands := rest } .unknownCommand) htaken.2))
    · exact outcomeSteps_self s

/-! ## The host's reads and the events -/

theorem clearedWork_reset : ClearedWork State.reset where
  contexts := rfl
  extents := rfl
  freeSlots := by simp [State.reset, slotCount]
  ready := fun q => Vector.getElem_replicate ..
  claims := rfl

/-- Every register beside the held work is in range right after power-on, and memory keeps its form (R51). -/
theorem globalsKept_reset (s : State) : GlobalsKept s { State.reset with mem := s.mem, pending := s.pending } where
  links := fun _ => linkCountersTrue_zero
  services := fun _ c d hc => by simp [State.reset] at hc
  settings := fun _ => (by decide : EngineSettings State.reset)
  defaults := fun _ => (by decide : State.reset.defaultA ≤ 65535 ∧ State.reset.defaultB ≤ 65535)
  queues := fun _ => (by decide : QueuesBounded State.reset)
  mem := id

/-- Work moves with any state of the same work. -/
theorem ClearedWork.congr {s t : State} (h : ClearedWork s) (hcontexts : t.contexts = s.contexts)
    (hextents : t.extents = s.extents) (hfree : t.freeSlots = s.freeSlots) (hsize : t.extentSize = s.extentSize)
    (hready : t.ready = s.ready) (hclaims : t.claims = s.claims) : ClearedWork t where
  contexts := hcontexts.trans h.contexts
  extents := hextents.trans h.extents
  freeSlots := by rw [hfree, h.freeSlots, hsize]
  ready := fun q => by rw [hready, h.ready q]
  claims := hclaims.trans h.claims

theorem outcomeSteps_execPowerOn (s : State) : OutcomeSteps s (execPowerOn s) := by
  have hcleared (u : State) (hu : ClearedWork u) : ClearedWork { u with mem := s.mem, pending := s.pending } :=
    hu.congr rfl rfl rfl rfl rfl rfl
  have hclear := Move.clear (hcleared _ clearedWork_reset) (globalsKept_reset s)
  unfold execPowerOn
  exact outcomeSteps_next ⟨fun _ => .single hclear, rfl⟩

theorem outcomeSteps_execCommandWrite (c : CommandRecord) (s : State) : OutcomeSteps s (execCommandWrite c s) := by
  unfold execCommandWrite
  split
  · rename_i hroom
    refine outcomeSteps_next (steps_same ⟨rfl, rfl, rfl, rfl, rfl, rfl, rfl,
      ⟨id, id, id, id, fun hq => ⟨hq.1, ?_, hq.2.2⟩, id⟩⟩ rfl)
    simpa using hroom
  · exact outcomeSteps_next (steps_same ⟨rfl, rfl, rfl, rfl, rfl, rfl, rfl, ⟨id, id, id, id, id, id⟩⟩ rfl)

theorem outcomeSteps_execResponseRead (s : State) : OutcomeSteps s (execResponseRead s) := by
  unfold execResponseRead
  split
  · exact outcomeSteps_next (steps_same ⟨rfl, rfl, rfl, rfl, rfl, rfl, rfl, ⟨id, id, id, id, id, id⟩⟩ rfl)
  · rename_i r rest hresponses
    refine outcomeSteps_next (steps_same ⟨rfl, rfl, rfl, rfl, rfl, rfl, rfl,
      ⟨id, id, id, id, fun hq => ⟨hq.1, hq.2.1, ?_⟩, id⟩⟩ rfl)
    have := hq.2.2
    rw [hresponses, List.length_cons] at this
    dsimp only
    omega

theorem outcomeSteps_execSnapshotCompletion (s : State) : OutcomeSteps s (execSnapshotCompletion s) := by
  unfold execSnapshotCompletion
  split
  · exact outcomeSteps_self s
  · exact outcomeSteps_next (steps_same ⟨rfl, rfl, rfl, rfl, rfl, rfl, rfl, ⟨id, id, id, id, id, id⟩⟩ rfl)

/-! ## The timers (R121, R125, R126) -/

theorem works_gapExpire {s : State} {i : Nat} {c : Context} (hc : ctxOf s i = some c) (hdue : gapDue c = true) :
    Works s (gapExpire s i c) := by
  simp only [gapDue, timerRuns, Bool.and_eq_true] at hdue
  obtain ⟨⟨⟨hrun, -⟩, -⟩, -⟩ := hdue
  refine works_setCtx hc ⟨⟨rfl, rfl, rfl, rfl, rfl⟩, rfl, rfl, rfl, .inr hrun⟩ ⟨⟨rfl, rfl⟩, id, fun h => ?_, id⟩
  obtain ⟨ha, hb, -⟩ := h
  refine ⟨ha, hb, Nat.zero_le _, fun hgap => ?_, fun habandon => ?_, fun hstop => ?_⟩
  · dsimp only at hgap
    split at hgap <;> cases hgap
  · dsimp only at habandon
    split at habandon
    · assumption
    · cases habandon
  · exact absurd (hrun.symm.trans hstop) (by decide)

/-- What is dropped after a quiet change of the context is dropped with it. -/
theorem dropped_of_setCtx {s t : State} {i : Nat} {b c d : Context} {rs : List (Nat × Extent)}
    (h : Dropped (setCtx s i c) t i c d rs) (hb : ctxOf s i = some b) (hplace : PlaceKept b c) :
    Dropped s t i b d rs where
  context := hb
  records := h.records
  nodup := h.nodup
  frame := (heldWork_setCtx ..).trans h.frame
  extentSize := h.extentSize
  contexts := by rw [h.contexts, setCtx_contexts, tabSet_tabSet]
  extents := h.extents
  freeSlots := h.freeSlots
  gens := h.gens
  readySub := h.readySub
  readyKeep := h.readyKeep
  readyGone := fun y hy hst => by
    have hgone := h.readyGone y hy hst
    simp only [hplace.queue] at hgone
    exact hgone
  claimsSub := h.claimsSub
  claimsKeep := h.claimsKeep
  claimsGone := h.claimsGone
  tag := h.tag.trans hplace.tag
  queue := h.queue.trans hplace.queue
  edge := h.edge.trans hplace.edge
  held := by rw [h.held, hplace.held]
  window := fun k => by
    rw [h.window k, winGet, winGet]
    simp only [hplace.edge, hplace.window]

theorem works_abandonExpire {s : State} {i : Nat} {c : Context} (hc : ctxOf s i = some c) (hdue : abandonDue c = true) :
    Works s (abandonExpire s i c) := by
  simp only [abandonDue, timerRuns, Bool.and_eq_true, beq_iff_eq] at hdue
  obtain ⟨⟨⟨hrun, -⟩, -⟩, hcount⟩ := hdue
  refine ⟨fun hw => ?_, ((heldWork_setCtx ..).trans (heldWork_failStream ..)).portsKept⟩
  have hst : ¬ (c.state = .failed ∨ c.state = .withdrawing) := by
    rintro (h | h) <;> rw [h] at hrun <;> exact absurd hrun (by decide)
  obtain ⟨d, hd, hdrop⟩ := dropped_failStream (s := setCtx s i { c with count := c.count + 1 })
    ⟨tabWf_tabSet hw.contexts .., hw.extents⟩ (ctxOf_setCtx_same ..) hst .stall
  have hdrop' : Dropped s (abandonExpire s i c) i c d (unsealedRecords s i) :=
    dropped_of_setCtx hdrop hc ⟨rfl, rfl, rfl, rfl, rfl⟩
  refine (works_drop hdrop' ⟨?_, ?_, fun h => ?_, ?_⟩
    fun hstream => hdrop'.streamTrue_of_failed ?_ ?_ ?_ ?_ hstream.2).chain hw
  · rw [hd]; exact ⟨rfl, rfl⟩
  · rw [hd]; exact id
  · obtain ⟨ha, hb, -⟩ := h
    have hphase : d.phase = .off := by rw [hd]
    have hcountd : d.count = c.count + 1 := by rw [hd]
    have hca : d.compareA = c.compareA := by rw [hd]
    have hcb : d.compareB = c.compareB := by rw [hd]
    refine ⟨hca ▸ ha, hcb ▸ hb, by omega, fun hgap => ?_, fun habandon => ?_, fun _ => hphase⟩
    · exact absurd (hphase.symm.trans hgap) (by decide)
    · exact absurd (hphase.symm.trans habandon) (by decide)
  · rw [hd]; exact id
  all_goals rw [hd]
  rfl

theorem works_advanceTimer (s : State) (i : Nat) : Works s (advanceTimer s i) := by
  unfold advanceTimer
  split
  · exact .refl s
  rename_i c hc
  split
  · exact works_gapExpire hc ‹_›
  rename_i hgapDue
  split
  · exact works_abandonExpire hc ‹_›
  rename_i habandonDue
  split
  · rename_i hruns
    refine works_setCtx hc ⟨⟨rfl, rfl, rfl, rfl, rfl⟩, rfl, rfl, rfl, .inl rfl⟩ ⟨⟨rfl, rfl⟩, id, fun h => ?_, id⟩
    obtain ⟨ha, hb, -, hgap, habandon, hoff⟩ := h
    have hgap' : c.phase = .gap → c.count + 1 < c.compareA := fun hp => by
      have := hgap hp
      have hne : c.count + 1 ≠ c.compareA := fun h => hgapDue (by simp [gapDue, hruns, hp, h])
      omega
    have habandon' : c.phase = .abandon → c.count + 1 < c.compareB := fun hp => by
      have := habandon hp
      have hne : c.count + 1 ≠ c.compareB := fun h => habandonDue (by simp [abandonDue, hruns, hp, h])
      omega
    refine ⟨ha, hb, ?_, hgap', habandon', hoff⟩
    dsimp only
    cases hp : c.phase with
    | off => simp [timerRuns, hp] at hruns
    | gap => have := hgap' hp; omega
    | abandon => have := habandon' hp; omega
  · exact .refl s

theorem outcomeSteps_execGapExpiry (ctx : Fin 1024) (s : State) : OutcomeSteps s (execGapExpiry ctx s) := by
  unfold execGapExpiry
  split
  · exact outcomeSteps_self s
  · split
    · exact outcomeSteps_next (works_gapExpire ‹_› ‹_›).steps
    · exact outcomeSteps_self s

theorem outcomeSteps_execAbandonExpiry (ctx : Fin 1024) (s : State) : OutcomeSteps s (execAbandonExpiry ctx s) := by
  unfold execAbandonExpiry
  split
  · exact outcomeSteps_self s
  · split
    · exact outcomeSteps_next (works_abandonExpire ‹_› ‹_›).steps
    · exact outcomeSteps_self s

/-! ## Every command and every step -/

theorem outcomeSteps_exec (i : Instr) (s : State) : OutcomeSteps s (exec i s) := by
  cases i with
  | powerOn => exact outcomeSteps_execPowerOn s
  | arrivalDelivery a => exact outcomeSteps_execArrivalDelivery a s
  | segment => exact outcomeSteps_execSegment s
  | check => exact outcomeSteps_execCheck s
  | trailer => exact outcomeSteps_execTrailer s
  | unknownKind => exact outcomeSteps_execUnknownKind s
  | dispositionAccept => exact outcomeSteps_execDispositionAccept s
  | commandWrite c => exact outcomeSteps_execCommandWrite c s
  | responseRead => exact outcomeSteps_execResponseRead s
  | portStatusRead => exact outcomeSteps_next (steps_same ⟨rfl, rfl, rfl, rfl, rfl, rfl, rfl, ⟨id, id, id, id, id, id⟩⟩ rfl)
  | openStream => exact outcomeSteps_takeCommand _ works_openStream s
  | closeStream => exact outcomeSteps_takeCommand _ works_closeStream s
  | abortStream => exact outcomeSteps_takeCommand _ works_abortStream s
  | abortGroup => exact outcomeSteps_takeCommand _ works_abortGroup s
  | queryStream => exact outcomeSteps_takeCommand _ works_queryStream s
  | configurePool => exact outcomeSteps_takeCommand _ works_configurePool s
  | supplyCheck => exact outcomeSteps_takeCommand _ works_supplyCheck s
  | supplyObjectCheck => exact outcomeSteps_takeCommand _ works_supplyObjectCheck s
  | setStreamTimers => exact outcomeSteps_takeCommand _ works_setStreamTimers s
  | setGroupTimers => exact outcomeSteps_takeCommand _ works_setGroupTimers s
  | setTimerDefaults => exact outcomeSteps_takeCommand _ works_setTimerDefaults s
  | setQueue => exact outcomeSteps_takeCommand _ works_setQueue s
  | releaseHold => exact outcomeSteps_takeCommand _ works_releaseHold s
  | drainStatus => exact outcomeSteps_takeCommand _ (fun _ _ => .refl _) s
  | setStoreLimit => exact outcomeSteps_takeCommand _ works_setStoreLimit s
  | ackAttention => exact outcomeSteps_takeCommand _ works_ackAttention s
  | endAttention => exact outcomeSteps_takeCommand _ works_endAttention s
  | setClass => exact outcomeSteps_takeCommand _ works_setClass s
  | setThreshold => exact outcomeSteps_takeCommand _ works_setThreshold s
  | fetchNotices => exact outcomeSteps_takeCommand _ works_fetchNotices s
  | readStreamCounters => exact outcomeSteps_takeCommand _ works_readStreamCounters s
  | snapshot => exact outcomeSteps_takeCommand _ works_snapshotCommand s
  | readSnapshot => exact outcomeSteps_takeCommand _ works_readSnapshot s
  | queryEngine => exact outcomeSteps_takeCommand _ (fun _ _ => .refl _) s
  | resetEngine => exact outcomeSteps_takeCommand _ works_resetEngine s
  | unknownCommand => exact outcomeSteps_execUnknownCommand s
  | readReady q count => exact outcomeSteps_takeRequest (works_readReady ..)
  | chainRead count => exact outcomeSteps_takeRequest (works_chainWalk ..)
  | readData h offset length => exact outcomeSteps_takeRequest (by rw [readData_state]; exact .refl s)
  | release h outcome => exact outcomeSteps_takeRequest (works_releaseHandle ..)
  | drainStatusRequest => exact outcomeSteps_takeRequest (body := fun s => (s, .summary (drainSummary s))) (.refl s)
  | unknownRequest kind => exact outcomeSteps_takeRequest (body := fun s => (s, .status .unknownRequest)) (.refl s)
  | drainAnswerAccept => exact outcomeSteps_execDrainAnswerAccept s
  | timerAdvance ctx => exact outcomeSteps_next (works_advanceTimer ..).steps
  | gapExpiry ctx => exact outcomeSteps_execGapExpiry ctx s
  | abandonExpiry ctx => exact outcomeSteps_execAbandonExpiry ctx s
  | snapshotCompletion => exact outcomeSteps_execSnapshotCompletion s

/-- Every step is a chain of moves. -/
theorem chain_step {s t : State} (h : step s = .next t) (hw : TablesWf s) : Relation.ReflTransGen Move s t := by
  unfold step at h
  split at h
  · cases h
    exact .refl
  · rename_i c rest _
    have hpop : SameWork s { s with pending := rest } :=
      ⟨rfl, rfl, rfl, rfl, rfl, rfl, rfl, ⟨id, id, id, id, id, id⟩⟩
    exact (Relation.ReflTransGen.single (.same hpop)).trans ((outcomeSteps_exec c _ t h).chain ⟨hw.contexts, hw.extents⟩)

/-- What every move keeps is kept by every step. -/
theorem kept_step {P : State → Prop} {s t : State} (h : step s = .next t) (hw : TablesWf s)
    (hmove : ∀ u v, TablesWf u → P u → Move u v → P v) (hs : P s) : P t :=
  (reflTransGen_induct (chain_step h hw) hw hmove hs).2

end Sys2Proof.Machine
end

section
/-! PROOFS. The slots, the records, the tags and the held counts stay accounted for (O53). -/
namespace Sys2Proof.Machine

/-! ## Tables as lists of what they bind -/

/-- A write at a bound number keeps what is read of each entry, where the new entry reads as the old one. -/
theorem map_tabSet_of_bound {α β : Type} {t : Table α} (hw : tabWf t = true) {k : Nat} {v w : α}
    (hv : tabGet t k = some v) (g : Nat × α → β) (hg : g (k, w) = g (k, v)) : (tabSet t k w).map g = t.map g := by
  induction t with
  | nil => simp [tabGet] at hv
  | cons x t ih =>
    obtain ⟨j, u⟩ := x
    have hpair := List.pairwise_cons.1 ((tabWf_iff _).1 hw)
    unfold tabSet
    by_cases hjk : k = j
    · subst hjk
      have huv : u = v := by simpa [tabGet] using hv
      simp [huv, hg]
    · have hv' : tabGet t k = some v := by simpa [tabGet, hjk] using hv
      have hlt : ¬ k < j := Nat.not_lt.2 (Nat.le_of_lt (hpair.1 _ (mem_of_tabGet hv')))
      rw [if_neg hlt, if_neg hjk, List.map_cons, List.map_cons, ih ((tabWf_iff _).2 hpair.2) hv']

/-- A write at an unbound number adds its entry. -/
theorem perm_tabSet_of_unbound {α : Type} {t : Table α} {k : Nat} (hk : tabGet t k = none) (v : α) :
    (tabSet t k v).Perm ((k, v) :: t) := by
  induction t with
  | nil => exact .refl _
  | cons x t ih =>
    obtain ⟨j, u⟩ := x
    have hjk : k ≠ j := fun h => by simp [tabGet, h] at hk
    have hk' : tabGet t k = none := by simpa [tabGet, hjk] using hk
    simp only [tabSet, if_neg hjk]
    split
    · exact .refl _
    · exact ((ih hk').cons _).trans (.swap ..)

/-! ## The pool and the tables, read through the tables -/

/-- `PoolTrue` with the tables read by number. -/
structure Ledger (s : State) : Prop where
  tables : TablesWf s
  below : ∀ i c, ctxOf s i = some c → i < Config.contextCount
  tags : ∀ i j c d, ctxOf s i = some c → ctxOf s j = some d → c.tag = d.tag → i = j
  pool : PoolAccounted s
  owned : ∀ n r, tabGet s.extents n = some r → (ctxOf s r.stream).isSome = true
  held : ∀ i c, ctxOf s i = some c → c.held = (recordsOf s i).length

theorem tagsNodup_iff {s : State} (hw : tabWf s.contexts = true) : (s.contexts.map (fun y => y.2.tag)).Nodup ↔
    ∀ i j c d, ctxOf s i = some c → ctxOf s j = some d → c.tag = d.tag → i = j := by
  rw [List.nodup_map_iff_inj_on (tabWf_nodup hw).of_map]
  constructor
  · intro h i j c d hc hd htag
    exact congrArg Prod.fst (h _ (mem_of_tabGet hc) _ (mem_of_tabGet hd) htag)
  · rintro h ⟨i, c⟩ hc ⟨j, d⟩ hd htag
    have hc' := tabGet_of_mem hw hc
    have hd' := tabGet_of_mem hw hd
    obtain rfl := h i j c d hc' hd' htag
    rw [Option.some.inj (hc'.symm.trans hd')]

theorem poolTrue_iff_ledger (s : State) : PoolTrue s ↔ Ledger s := by
  constructor
  · rintro ⟨⟨hctx, hext, hbelow, htags⟩, hpool, howned, hheld⟩
    exact ⟨⟨hctx, hext⟩, fun i c hc => hbelow _ (mem_of_tabGet hc), (tagsNodup_iff hctx).1 htags, hpool,
      fun n r hr => howned _ (mem_of_tabGet hr), fun i c hc => hheld _ (mem_of_tabGet hc)⟩
  · rintro ⟨⟨hctx, hext⟩, hbelow, htags, hpool, howned, hheld⟩
    exact ⟨⟨hctx, hext, fun y hy => hbelow y.1 y.2 (tabGet_of_mem hctx hy), (tagsNodup_iff hctx).2 htags⟩, hpool,
      fun x hx => howned x.1 x.2 (tabGet_of_mem hext hx), fun y hy => hheld y.1 y.2 (tabGet_of_mem hctx hy)⟩

/-! ## Changes inside contexts and records -/

/-- State `t` has the slots, the owners of the records, the tags and the held counts of `s`. -/
structure SameLedger (s t : State) : Prop where
  extentSize : t.extentSize = s.extentSize
  freeSlots : t.freeSlots = s.freeSlots
  owners : t.extents.map (fun x => (x.1, x.2.stream)) = s.extents.map (fun x => (x.1, x.2.stream))
  contexts : t.contexts.map (fun y => (y.1, y.2.tag, y.2.held)) = s.contexts.map (fun y => (y.1, y.2.tag, y.2.held))

theorem SameLedger.slots {s t : State} (h : SameLedger s t) : t.extents.map (·.1) = s.extents.map (·.1) := by
  simpa [Function.comp_def] using congrArg (List.map Prod.fst) h.owners

theorem SameLedger.indexes {s t : State} (h : SameLedger s t) : t.contexts.map (·.1) = s.contexts.map (·.1) := by
  simpa [Function.comp_def] using congrArg (List.map Prod.fst) h.contexts

theorem SameLedger.recordCount {s t : State} (h : SameLedger s t) (i : Nat) :
    (recordsOf t i).length = (recordsOf s i).length := by
  have hcount (u : State) : (recordsOf u i).length =
      (u.extents.map fun x => (x.1, x.2.stream)).countP (fun o => o.2 == i) := by
    rw [recordsOf, ← List.countP_eq_length_filter, List.countP_map]
    rfl
  rw [hcount, hcount, h.owners]

theorem isSome_tabGet_iff {α : Type} {t : Table α} (hw : tabWf t = true) (k : Nat) :
    (tabGet t k).isSome = true ↔ k ∈ t.map (·.1) := by
  simp only [Option.isSome_iff_exists, List.mem_map, Prod.exists, exists_and_right, exists_eq_right]
  exact exists_congr fun v => (mem_iff_tabGet hw).symm

theorem SameLedger.ledger {s t : State} (h : SameLedger s t) (hw : TablesWf t) (hs : Ledger s) : Ledger t := by
  have hback (i : Nat) (c : Context) (hc : ctxOf t i = some c) :
      ∃ d, ctxOf s i = some d ∧ d.tag = c.tag ∧ d.held = c.held := by
    have hmem : (i, c.tag, c.held) ∈ s.contexts.map (fun y => (y.1, y.2.tag, y.2.held)) := by
      rw [← h.contexts]
      exact List.mem_map.2 ⟨(i, c), mem_of_tabGet hc, rfl⟩
    obtain ⟨⟨j, d⟩, hd, heq⟩ := List.mem_map.1 hmem
    simp only [Prod.mk.injEq] at heq
    obtain ⟨rfl, htag, hheld⟩ := heq
    exact ⟨d, tabGet_of_mem hs.tables.contexts hd, htag, hheld⟩
  refine ⟨hw, fun i c hc => ?_, fun i j c d hc hd htag => ?_, ?_, fun n r hr => ?_, fun i c hc => ?_⟩
  · obtain ⟨d, hd, -⟩ := hback i c hc
    exact hs.below i d hd
  · obtain ⟨c', hc', hct, -⟩ := hback i c hc
    obtain ⟨d', hd', hdt, -⟩ := hback j d hd
    exact hs.tags i j c' d' hc' hd' (by rw [hct, hdt, htag])
  · rw [PoolAccounted, h.freeSlots, h.slots, h.extentSize]
    exact hs.pool
  · have hmem : (n, r.stream) ∈ s.extents.map (fun x => (x.1, x.2.stream)) := by
      rw [← h.owners]
      exact List.mem_map.2 ⟨(n, r), mem_of_tabGet hr, rfl⟩
    obtain ⟨⟨m, q⟩, hq, heq⟩ := List.mem_map.1 hmem
    simp only [Prod.mk.injEq] at heq
    obtain ⟨rfl, hstream⟩ := heq
    rw [ctxOf, isSome_tabGet_iff hw.contexts, h.indexes, ← isSome_tabGet_iff hs.tables.contexts, ← hstream]
    exact hs.owned m q (tabGet_of_mem hs.tables.extents hq)
  · obtain ⟨d, hd, -, hheld⟩ := hback i c hc
    rw [h.recordCount, ← hheld]
    exact hs.held i d hd

/-- A record rewritten for its own stream leaves the owners of the records. -/
theorem owners_tabSet {s : State} (hw : TablesWf s) {slot : Nat} {r q : Extent} (hr : tabGet s.extents slot = some r)
    (hstream : q.stream = r.stream) :
    (tabSet s.extents slot q).map (fun x => (x.1, x.2.stream)) = s.extents.map (fun x => (x.1, x.2.stream)) :=
  map_tabSet_of_bound hw.extents hr (fun x => (x.1, x.2.stream)) (by rw [hstream])

/-- A context rewritten with its tag and its held count leaves those of the contexts. -/
theorem places_tabSet {s : State} (hw : TablesWf s) {i : Nat} {c d : Context} (hc : ctxOf s i = some c)
    (htag : d.tag = c.tag) (hheld : d.held = c.held) :
    (tabSet s.contexts i d).map (fun y => (y.1, y.2.tag, y.2.held)) =
      s.contexts.map (fun y => (y.1, y.2.tag, y.2.held)) :=
  map_tabSet_of_bound hw.contexts hc (fun y => (y.1, y.2.tag, y.2.held)) (by rw [htag, hheld])

theorem sameLedger_claimExtent {s : State} (hw : TablesWf s) (slot : Nat) :
    (claimExtent s slot).map (fun x => (x.1, x.2.stream)) = s.extents.map (fun x => (x.1, x.2.stream)) := by
  unfold claimExtent
  split
  · rfl
  · rename_i hr
    exact owners_tabSet hw hr rfl

/-! ## Creating a record -/

theorem ledger_createExtent {s : State} (hs : Ledger s) {i : Nat} {c : Context} (hc : ctxOf s i = some c) (k : Nat)
    (v : Option Pcv) : Ledger (createExtent s i k v) := by
  cases hfree : s.freeSlots with
  | nil => rw [createExtent, hfree]; exact hs
  | cons slot rest =>
    have hunbound := (freeSlots_of_poolAccounted hs.pool).2 slot (by simp [hfree])
    have heq := createExtent_eq hfree hc k v
    have hctx (j : Nat) : ctxOf (createExtent s i k v) j =
        if j = i then some { c with window := winSet c k .live, held := c.held + 1 } else ctxOf s j := by
      rw [heq]
      exact tabGet_tabSet ..
    have hext : (createExtent s i k v).extents = tabSet s.extents slot (newExtent i k v) := by rw [heq]
    have hperm := perm_tabSet_of_unbound hunbound (newExtent i k v)
    have hcount (j : Nat) : (recordsOf (createExtent s i k v) j).length =
        (if j = i then 1 else 0) + (recordsOf s j).length := by
      rw [recordsOf, hext, (hperm.filter _).length_eq, List.filter_cons, recordsOf]
      by_cases hji : j = i
      · simp [newExtent, hji, Nat.add_comm]
      · simp [newExtent, hji, Ne.symm hji]
    refine ⟨tablesWf_createExtent hs.tables .., fun j d hd => ?_, fun j l d e hd he htag => ?_, ?_, fun n r hr => ?_,
      fun j d hd => ?_⟩
    · rw [hctx] at hd
      split at hd
      · exact ‹j = i› ▸ hs.below i c hc
      · exact hs.below j d hd
    · rw [hctx] at hd he
      split at hd <;> split at he
      · exact ‹j = i›.trans ‹l = i›.symm
      · cases hd
        exact ‹j = i› ▸ hs.tags i l c e hc he htag
      · cases he
        exact ‹l = i› ▸ hs.tags j i d c hd hc htag
      · exact hs.tags j l d e hd he htag
    · have hpool := hs.pool
      rw [PoolAccounted, hfree] at hpool
      have hsize : (createExtent s i k v).extentSize = s.extentSize := by rw [heq]
      have hrest : (createExtent s i k v).freeSlots = rest := by rw [heq]
      rw [PoolAccounted, hext, hsize, hrest]
      exact (((hperm.map Prod.fst).append_left rest).trans List.perm_middle).trans hpool
    · rw [hext, tabGet_tabSet] at hr
      rw [hctx]
      split
      · rfl
      · split at hr
        · cases hr
          exact absurd rfl ‹_›
        · exact hs.owned n r hr
    · rw [hctx] at hd
      rw [hcount]
      split at hd
      · cases hd
        rw [if_pos ‹_›, ‹j = i›]
        have := hs.held i c hc
        dsimp only
        omega
      · rw [if_neg ‹_›, Nat.zero_add]
        exact hs.held j d hd

/-! ## Dropping records -/

/-- The dropped records and the remaining ones are the records. -/
theorem Dropped.perm {s t : State} {i : Nat} {c d : Context} {rs : List (Nat × Extent)} (h : Dropped s t i c d rs)
    (hw : tabWf s.extents = true) : (rs ++ t.extents).Perm s.extents := by
  have hmem (y : Nat × Extent) : y ∈ rs ↔ y ∈ s.extents.filter (fun y => y.1 ∈ rs.map (·.1)) := by
    rw [List.mem_filter, decide_eq_true_eq]
    refine ⟨fun hy => ⟨mem_of_tabGet (h.records y hy).1, List.mem_map_of_mem hy⟩, fun ⟨hy, hslot⟩ => ?_⟩
    obtain ⟨z, hz, hzy⟩ := List.mem_map.1 hslot
    have hyz : y.2 = z.2 := by
      have h1 := tabGet_of_mem hw (k := y.1) (v := y.2) hy
      rw [← hzy, (h.records z hz).1] at h1
      exact (Option.some.inj h1).symm
    rwa [show y = z from Prod.ext hzy.symm hyz]
  have hperm : rs.Perm (s.extents.filter (fun y => y.1 ∈ rs.map (·.1))) :=
    (List.perm_ext_iff_of_nodup h.nodup.of_map ((tabWf_nodup hw).of_map.filter _)).2 hmem
  rw [h.extents]
  refine (hperm.append_right _).trans ?_
  simpa using List.filter_append_perm (fun y : Nat × Extent => decide (y.1 ∈ rs.map (·.1))) s.extents

theorem Dropped.ctxOf {s t : State} {i : Nat} {c d : Context} {rs : List (Nat × Extent)} (h : Dropped s t i c d rs)
    (j : Nat) : ctxOf t j = if j = i then some d else ctxOf s j := by
  rw [Machine.ctxOf, h.contexts]
  exact tabGet_tabSet ..

theorem Dropped.ledger {s t : State} {i : Nat} {c d : Context} {rs : List (Nat × Extent)} (h : Dropped s t i c d rs)
    (hw : TablesWf t) (hs : Ledger s) : Ledger t := by
  have hperm := h.perm hs.tables.extents
  have hcount (j : Nat) : (recordsOf s j).length = (if j = i then rs.length else 0) + (recordsOf t j).length := by
    rw [recordsOf, ← (hperm.filter _).length_eq, List.filter_append, List.length_append, recordsOf]
    congr 1
    by_cases hji : j = i
    · rw [if_pos hji, List.filter_eq_self.2 fun y hy => by simp [(h.records y hy).2, hji]]
    · rw [if_neg hji, List.length_eq_zero_iff, List.filter_eq_nil_iff]
      intro y hy
      simp [(h.records y hy).2, Ne.symm hji]
  refine ⟨hw, fun j e he => ?_, fun j l e f he hf htag => ?_, ?_, fun n r hr => ?_, fun j e he => ?_⟩
  · rw [h.ctxOf] at he
    split at he
    · exact ‹j = i› ▸ hs.below i c h.context
    · exact hs.below j e he
  · rw [h.ctxOf] at he hf
    split at he <;> split at hf
    · exact ‹j = i›.trans ‹l = i›.symm
    · cases he
      exact ‹j = i› ▸ hs.tags i l c f h.context hf (h.tag ▸ htag)
    · cases hf
      exact ‹l = i› ▸ hs.tags j i e c he h.context (h.tag ▸ htag)
    · exact hs.tags j l e f he hf htag
  · rw [PoolAccounted, h.freeSlots, h.extentSize, List.append_assoc, ← List.map_append]
    exact ((hperm.map (·.1)).append_left _).trans hs.pool
  · rw [h.ctxOf]
    split
    · rfl
    · refine hs.owned n r (tabGet_of_mem hs.tables.extents ?_)
      have hmem := mem_of_tabGet hr
      rw [h.extents] at hmem
      exact (List.mem_filter.1 hmem).1
  · rw [h.ctxOf] at he
    have hj := hcount j
    split at he
    · cases he
      rw [if_pos ‹_›, ‹j = i›] at hj
      have := hs.held i c h.context
      rw [‹j = i›, h.held]
      omega
    · rw [if_neg ‹_›, Nat.zero_add] at hj
      rw [← hj]
      exact hs.held j e he

/-! ## Opening, closing, configuring -/

theorem recordsOf_eq_nil {s : State} {i : Nat} (hs : Ledger s) (hi : ctxOf s i = none) : recordsOf s i = [] := by
  rw [recordsOf, List.filter_eq_nil_iff]
  intro x hx hstream
  have howned := hs.owned x.1 x.2 (tabGet_of_mem hs.tables.extents hx)
  rw [show x.2.stream = i by simpa using hstream, hi] at howned
  cases howned

theorem ledger_opens {s : State} (hs : Ledger s) {i : Nat} {d : Context} (hlt : i < Config.contextCount)
    (hi : ctxOf s i = none) (htag : lookupTag s d.tag = none) (hheld : d.held = 0) : Ledger (setCtx s i d) := by
  have hunused (j : Nat) (c : Context) (hc : ctxOf s j = some c) : c.tag ≠ d.tag :=
    lookupTag_none hs.tables.contexts htag (j, c) (mem_of_tabGet hc)
  refine ⟨⟨tabWf_tabSet hs.tables.contexts .., hs.tables.extents⟩, fun j e he => ?_, fun j l e f he hf heq => ?_, hs.pool,
    fun n r hr => ?_, fun j e he => ?_⟩
  · rw [ctxOf_setCtx] at he
    split at he
    · omega
    · exact hs.below j e he
  · rw [ctxOf_setCtx] at he hf
    split at he <;> split at hf
    · exact ‹j = i›.trans ‹l = i›.symm
    · cases he
      exact absurd heq.symm (hunused l f hf)
    · cases hf
      exact absurd heq (hunused j e he)
    · exact hs.tags j l e f he hf heq
  · rw [ctxOf_setCtx]
    split
    · rfl
    · exact hs.owned n r hr
  · rw [ctxOf_setCtx] at he
    show e.held = (recordsOf s j).length
    split at he
    · cases he
      rw [‹j = i›, recordsOf_eq_nil hs hi, hheld, List.length_nil]
    · exact hs.held j e he

theorem ledger_close {s : State} (hs : Ledger s) {i : Nat} {c : Context} (hc : ctxOf s i = some c) (hheld : c.held = 0) :
    Ledger { s with contexts := tabErase s.contexts i } := by
  have hctx (j : Nat) : ctxOf { s with contexts := tabErase s.contexts i } j = if j = i then none else ctxOf s j :=
    tabGet_tabErase ..
  have hnone := (hs.held i c hc).symm.trans hheld
  rw [List.length_eq_zero_iff, recordsOf, List.filter_eq_nil_iff] at hnone
  refine ⟨⟨tabWf_tabErase hs.tables.contexts i, hs.tables.extents⟩, fun j e he => ?_, fun j l e f he hf heq => ?_, hs.pool,
    fun n r hr => ?_, fun j e he => ?_⟩
  · rw [hctx] at he
    split at he
    · cases he
    · exact hs.below j e he
  · rw [hctx] at he hf
    split at he
    · cases he
    · split at hf
      · cases hf
      · exact hs.tags j l e f he hf heq
  · rw [hctx, if_neg fun h => hnone _ (mem_of_tabGet hr) (by simp [h])]
    exact hs.owned n r hr
  · rw [hctx] at he
    split at he
    · cases he
    · exact hs.held j e he

theorem ledger_of_clear {t : State} (h : ClearedWork t) : Ledger t := by
  have hctx (j : Nat) : ctxOf t j = none := by rw [ctxOf, h.contexts]; rfl
  refine ⟨⟨by rw [h.contexts]; rfl, by rw [h.extents]; rfl⟩, fun j e he => ?_, fun j l e f he hf heq => ?_, ?_,
    fun n r hr => ?_, fun j e he => ?_⟩
  · rw [hctx] at he; cases he
  · rw [hctx] at he; cases he
  · rw [PoolAccounted, h.extents, h.freeSlots, List.map_nil, List.append_nil]
  · rw [h.extents] at hr; cases hr
  · rw [hctx] at he; cases he

/-- With no context there is no record. -/
theorem extents_eq_nil {s : State} (hs : Ledger s) (hctx : s.contexts = []) : s.extents = [] := by
  rw [List.eq_nil_iff_forall_not_mem]
  intro x hx
  have howned := hs.owned x.1 x.2 (tabGet_of_mem hs.tables.extents hx)
  rw [ctxOf, hctx] at howned
  cases howned

/-! ## Every move and every step -/

theorem Move.ledger {s t : State} (hmove : Move s t) (hs : Ledger s) : Ledger t := by
  have hw := hmove.tablesWf hs.tables
  cases hmove with
  | same h =>
    exact SameLedger.ledger (s := s) ⟨h.extentSize, h.freeSlots, by rw [h.extents], by rw [h.contexts]⟩ hw hs
  | context hc hplace =>
    exact SameLedger.ledger (s := s) ⟨rfl, rfl, rfl, places_tabSet hs.tables hc hplace.tag hplace.held⟩ hw hs
  | record hr hkept => exact SameLedger.ledger (s := s) ⟨rfl, rfl, owners_tabSet hs.tables hr hkept.stream, rfl⟩ hw hs
  | create hc => exact ledger_createExtent hs hc ..
  | seals _ hr hc =>
    exact SameLedger.ledger (s := s) ⟨rfl, rfl, owners_tabSet hs.tables hr rfl, places_tabSet hs.tables hc rfl rfl⟩ hw hs
  | drop h => exact h.ledger hw hs
  | handOut => exact SameLedger.ledger (s := s) ⟨rfl, rfl, sameLedger_claimExtent hs.tables _, rfl⟩ hw hs
  | requeue hj =>
    exact SameLedger.ledger (s := s) ⟨rfl, rfl, owners_tabSet hs.tables (judgeHandle_eq_ok hj).2.1 rfl, rfl⟩ hw hs
  | opens hlt hi htag hfresh => exact ledger_opens hs hlt hi htag hfresh.held
  | close hc hheld => exact ledger_close hs hc hheld
  | configure z low hctx =>
    exact ⟨hw, hs.below, hs.tags, by simp [PoolAccounted, configuredPool, extents_eq_nil hs hctx], hs.owned, hs.held⟩
  | clear h => exact ledger_of_clear h

theorem Move.poolTrue {s t : State} (hmove : Move s t) (hs : PoolTrue s) : PoolTrue t :=
  (poolTrue_iff_ledger t).2 (hmove.ledger ((poolTrue_iff_ledger s).1 hs))

theorem PoolTrue.tablesWf {s : State} (hs : PoolTrue s) : TablesWf s := hs.1.tablesWf

/-- Settles O53: every move keeps the ledger, and every step is a chain of moves. -/
theorem poolStaysAccounted : Obligations.PoolStaysAccounted := by
  unfold Obligations.PoolStaysAccounted
  intro s t hs hstep
  exact kept_step hstep hs.tablesWf (fun u v _ hu hmove => hmove.poolTrue hu) hs

end Sys2Proof.Machine
end

section
/-! PROOFS. Ready queues and claim table stay one to one with the READY and the CLAIMED records (O54). -/
namespace Sys2Proof.Machine

/-! ## Where a slot stands -/

/-- The queue in which slot `n` stands: that of its stream, where its record is READY. -/
def readyAt (s : State) (n : Nat) : Option (Fin 4) :=
  (tabGet s.extents n).bind fun r => if r.state = .ready then queueOf s r else none

/-- Whether the record of slot `n` is CLAIMED. -/
def claimedAt (s : State) (n : Nat) : Bool := (tabGet s.extents n).any fun r => r.state == .claimed

theorem readyAt_eq_some_iff {s : State} {n : Nat} {q : Fin 4} :
    readyAt s n = some q ↔ ∃ r c, tabGet s.extents n = some r ∧ r.state = .ready ∧ ctxOf s r.stream = some c ∧ c.queue = q := by
  unfold readyAt queueOf
  cases hr : tabGet s.extents n with
  | none => simp
  | some r =>
    by_cases hst : r.state = .ready
    · simp [hst]
    · simp [hst]

theorem claimedAt_iff {s : State} {n : Nat} :
    claimedAt s n = true ↔ ∃ r, tabGet s.extents n = some r ∧ r.state = .claimed := by
  cases hr : tabGet s.extents n <;> simp [claimedAt, hr]

/-- Where slot `n` stands, by its record. -/
theorem readyAt_of_some {s : State} {n : Nat} {r : Extent} (hr : tabGet s.extents n = some r) :
    readyAt s n = if r.state = .ready then queueOf s r else none := by simp [readyAt, hr]

theorem readyAt_of_none {s : State} {n : Nat} (hr : tabGet s.extents n = none) : readyAt s n = none := by
  simp [readyAt, hr]

theorem claimedAt_of_some {s : State} {n : Nat} {r : Extent} (hr : tabGet s.extents n = some r) :
    claimedAt s n = (r.state == .claimed) := by simp [claimedAt, hr]

theorem claimedAt_of_none {s : State} {n : Nat} (hr : tabGet s.extents n = none) : claimedAt s n = false := by
  simp [claimedAt, hr]

/-- The ready queues and the claim table hold exactly the current handles of the slots that stand there. -/
structure HandlesExact (s : State) : Prop where
  readyNodup : ∀ q : Fin 4, s.ready[q].Nodup
  ready : ∀ (q : Fin 4) (h : Handle), h ∈ s.ready[q] ↔ readyAt s h.slot = some q ∧ h = handleOf s h.slot
  claimsNodup : s.claims.Nodup
  claimsLength : s.claims.length ≤ Config.claimCapacity
  claims : ∀ h : Handle, h ∈ s.claims ↔ claimedAt s h.slot = true ∧ h = handleOf s h.slot

theorem namesRecord_iff {s : State} {st : ExtentState} {h : Handle} : namesRecord s st h = true ↔
    (∃ r, tabGet s.extents h.slot = some r ∧ r.state = st) ∧ h = handleOf s h.slot := by
  unfold namesRecord
  cases hr : tabGet s.extents h.slot <;> simp

theorem handlesExact_iff {s : State} (hs : Ledger s) : HandlesExact s ↔ QueuesExact s ∧ ClaimsExact s := by
  have hw := hs.tables.extents
  constructor
  · rintro ⟨hnodup, hready, hcnodup, hlength, hclaims⟩
    refine ⟨⟨hnodup, fun q h hh => ?_, fun x hx hst q hq => ?_⟩, hcnodup, hlength, fun h hh => ?_, fun x hx hst => ?_⟩
    · obtain ⟨hat, hcur⟩ := (hready q h).1 hh
      obtain ⟨r, c, hr, hst, hc, hq⟩ := readyAt_eq_some_iff.1 hat
      refine ⟨namesRecord_iff.2 ⟨⟨r, hr, hst⟩, hcur⟩, fun r' hr' => ?_⟩
      obtain rfl := Option.some.inj (hr.symm.trans hr')
      rw [queueOf, hc, Option.map_some, hq]
    · refine (hready q _).2 ⟨?_, rfl⟩
      exact (readyAt_of_some (tabGet_of_mem hw hx)).trans (by rw [if_pos hst]; exact hq)
    · obtain ⟨hat, hcur⟩ := (hclaims h).1 hh
      exact namesRecord_iff.2 ⟨claimedAt_iff.1 hat, hcur⟩
    · exact (hclaims _).2 ⟨claimedAt_iff.2 ⟨x.2, tabGet_of_mem hw hx, hst⟩, rfl⟩
  · rintro ⟨⟨hnodup, hnames, hin⟩, hcnodup, hlength, hcnames, hcin⟩
    refine ⟨hnodup, fun q h => ⟨fun hh => ?_, fun ⟨hat, hcur⟩ => ?_⟩, hcnodup, hlength, fun h => ⟨fun hh => ?_,
      fun ⟨hat, hcur⟩ => ?_⟩⟩
    · obtain ⟨hname, hqueue⟩ := hnames q h hh
      obtain ⟨⟨r, hr, hst⟩, hcur⟩ := namesRecord_iff.1 hname
      exact ⟨by rw [readyAt_of_some hr, if_pos hst]; exact hqueue r hr, hcur⟩
    · obtain ⟨r, c, hr, hst, hc, hq⟩ := readyAt_eq_some_iff.1 hat
      rw [hcur]
      exact hin (h.slot, r) (mem_of_tabGet hr) hst q (by rw [queueOf, hc, Option.map_some, hq]; rfl)
    · obtain ⟨hat, hcur⟩ := namesRecord_iff.1 (hcnames h hh)
      exact ⟨claimedAt_iff.2 hat, hcur⟩
    · obtain ⟨r, hr, hst⟩ := claimedAt_iff.1 hat
      rw [hcur]
      exact hcin (h.slot, r) (mem_of_tabGet hr) hst

/-! ## Changes that move no record between the queues -/

theorem HandlesExact.congr {s t : State} (hs : HandlesExact s) (hready : t.ready = s.ready) (hclaims : t.claims = s.claims)
    (hgens : t.gens = s.gens) (hrat : ∀ n, readyAt t n = readyAt s n) (hcat : ∀ n, claimedAt t n = claimedAt s n) :
    HandlesExact t := by
  have hhandle (n : Nat) : handleOf t n = handleOf s n := by rw [handleOf, genOf, hgens]; rfl
  refine ⟨fun q => by rw [hready]; exact hs.readyNodup q, fun q h => ?_, by rw [hclaims]; exact hs.claimsNodup,
    by rw [hclaims]; exact hs.claimsLength, fun h => ?_⟩
  · rw [hready, hrat, hhandle]
    exact hs.ready q h
  · rw [hclaims, hcat, hhandle]
    exact hs.claims h

/-- Contexts changed with their queues: the records stand where they stood. -/
theorem readyAt_congr {s t : State} (hext : t.extents = s.extents)
    (hqueue : ∀ n r, tabGet s.extents n = some r → queueOf t r = queueOf s r) (n : Nat) : readyAt t n = readyAt s n := by
  cases hr : tabGet s.extents n with
  | none => rw [readyAt_of_none hr, readyAt_of_none (hext ▸ hr)]
  | some r => rw [readyAt_of_some hr, readyAt_of_some (s := t) (by rw [hext]; exact hr), hqueue n r hr]

theorem claimedAt_congr {s t : State} (hext : t.extents = s.extents) (n : Nat) : claimedAt t n = claimedAt s n := by
  rw [claimedAt, hext]
  rfl

/-- The queue of a stream whose context is written with its queue. -/
theorem queueOf_setCtx {s t : State} {i : Nat} {c d : Context} (hc : ctxOf s i = some c) (hqueue : d.queue = c.queue)
    (ht : ∀ j, ctxOf t j = if j = i then some d else ctxOf s j) (r : Extent) : queueOf t r = queueOf s r := by
  unfold queueOf
  rw [ht]
  split
  · rw [‹r.stream = i›, hc]
    simp [hqueue]
  · rfl

theorem handlesExact_record {s : State} (hs : HandlesExact s) {slot : Nat} {r q : Extent}
    (hr : tabGet s.extents slot = some r) (hkept : RecordKept s r q) : HandlesExact (setExtent s slot q) := by
  have hstates : (q.state = .ready ↔ r.state = .ready) ∧ (q.state = .claimed ↔ r.state = .claimed) := by
    obtain heq | ⟨hru, hqu⟩ := hkept.state
    · rw [heq]
      exact ⟨.rfl, .rfl⟩
    · rcases (unsealed_eq_true_iff _).1 hru with h | h <;> rcases (unsealed_eq_true_iff _).1 hqu with h' | h' <;> simp [h, h']
  refine hs.congr rfl rfl rfl (fun n => ?_) fun n => ?_
  · by_cases hn : n = slot
    · subst hn
      rw [readyAt_of_some hr, readyAt_of_some (s := setExtent s n q) (tabGet_tabSet_same ..)]
      simp only [hstates.1, queueOf, hkept.stream, ctxOf_setExtent]
    · simp [readyAt, tabGet_tabSet_other _ _ hn, queueOf]
  · by_cases hn : n = slot
    · subst hn
      rw [claimedAt_of_some hr, claimedAt_of_some (s := setExtent s n q) (tabGet_tabSet_same ..), Bool.eq_iff_iff]
      simp [hstates.2]
    · simp [claimedAt, tabGet_tabSet_other _ _ hn]

theorem handlesExact_createExtent {s : State} (hs : HandlesExact s) (hl : Ledger s) {i : Nat} {c : Context}
    (hc : ctxOf s i = some c) (k : Nat) (v : Option Pcv) : HandlesExact (createExtent s i k v) := by
  cases hfree : s.freeSlots with
  | nil => rw [createExtent, hfree]; exact hs
  | cons slot rest =>
    have hunbound := (freeSlots_of_poolAccounted hl.pool).2 slot (by simp [hfree])
    have heq := createExtent_eq hfree hc k v
    have hext : (createExtent s i k v).extents = tabSet s.extents slot (newExtent i k v) := by rw [heq]
    have hqueue (r : Extent) : queueOf (createExtent s i k v) r = queueOf s r :=
      queueOf_setCtx (d := { c with window := winSet c k .live, held := c.held + 1 }) hc rfl
        (fun j => by rw [heq]; exact tabGet_tabSet ..) r
    refine hs.congr (by rw [heq]) (by rw [heq]) (by rw [heq]) (fun n => ?_) fun n => ?_
    · by_cases hn : n = slot
      · subst hn
        rw [readyAt_of_none hunbound, readyAt_of_some (by rw [hext]; exact tabGet_tabSet_same ..)]
        rfl
      · simp [readyAt, hext, tabGet_tabSet_other _ _ hn, hqueue]
    · by_cases hn : n = slot
      · subst hn
        rw [claimedAt_of_none hunbound, claimedAt_of_some (by rw [hext]; exact tabGet_tabSet_same ..)]
        rfl
      · simp [claimedAt, hext, tabGet_tabSet_other _ _ hn]

/-! ## The seal, the hand-out and the requeue -/

/-- One slot comes to stand at the tail of queue `p`. -/
theorem mem_ready_push {ready : Vector (List Handle) 4} {p q : Fin 4} {g h : Handle} :
    h ∈ (ready.set p (ready[p] ++ [g]))[q] ↔ h ∈ ready[q] ∨ (q = p ∧ h = g) := by
  by_cases hq : q = p
  · subst hq
    simp
  · have hne : p.val ≠ q.val := fun h => hq (Fin.ext h.symm)
    simp [hne, hq]

theorem nodup_ready_push {ready : Vector (List Handle) 4} {p : Fin 4} {g : Handle}
    (hnodup : ∀ q : Fin 4, ready[q].Nodup) (hg : g ∉ ready[p]) (q : Fin 4) :
    (ready.set p (ready[p] ++ [g]))[q].Nodup := by
  by_cases hq : q = p
  · subst hq
    simpa using List.nodup_append.2 ⟨hnodup q, List.nodup_singleton g, fun a ha b hb hab => hg (by rw [← List.mem_singleton.1 hb, ← hab]; exact ha)⟩
  · have hne : p.val ≠ q.val := fun h => hq (Fin.ext h.symm)
    simpa [hne] using hnodup q

theorem HandlesExact.not_mem_ready {s : State} (hs : HandlesExact s) {n : Nat} {q : Fin 4} (h : readyAt s n ≠ some q) :
    handleOf s n ∉ s.ready[q] := fun hmem => h ((hs.ready q _).1 hmem).1

theorem handlesExact_sealedState {s : State} (hs : HandlesExact s) {slot : Nat} {r : Extent} {c : Context}
    (hr : tabGet s.extents slot = some r) (hc : ctxOf s r.stream = some c) (hun : r.state.unsealed = true)
    (checked : Bool) : HandlesExact (sealedState s slot checked r c) := by
  have hrnot : readyAt s slot = none := by
    rw [readyAt_of_some hr]
    rcases (unsealed_eq_true_iff _).1 hun with h | h <;> simp [h]
  have hqueue (q : Extent) : queueOf (sealedState s slot checked r c) q = queueOf s q :=
    queueOf_setCtx (t := sealedState s slot checked r c) (d := sealedContext (extentBytes s.extentSize) c r) hc rfl
      (fun j => tabGet_tabSet s.contexts j r.stream (sealedContext (extentBytes s.extentSize) c r)) q
  have hrat (n : Nat) : readyAt (sealedState s slot checked r c) n = if n = slot then some c.queue else readyAt s n := by
    split
    · subst n
      rw [readyAt_of_some (tabGet_tabSet_same ..), if_pos rfl, hqueue]
      simp [queueOf, hc]
    · simp [readyAt, sealedState, tabGet_tabSet_other _ _ ‹_›]
      exact congrArg _ (funext fun q => by rw [← hqueue q]; rfl)
  have hcat (n : Nat) : claimedAt (sealedState s slot checked r c) n = claimedAt s n := by
    by_cases hn : n = slot
    · subst hn
      rw [claimedAt_of_some hr, claimedAt_of_some (tabGet_tabSet_same ..)]
      rcases (unsealed_eq_true_iff _).1 hun with h | h <;> simp [h]
    · simp [claimedAt, sealedState, tabGet_tabSet_other _ _ hn]
  refine ⟨?_, fun q h => ?_, hs.claimsNodup, hs.claimsLength, fun h => ?_⟩
  · exact nodup_ready_push hs.readyNodup (hs.not_mem_ready (by rw [hrnot]; exact nofun))
  · refine mem_ready_push.trans ?_
    rw [hs.ready, hrat]
    show _ ↔ _ ∧ h = handleOf s h.slot
    by_cases hn : h.slot = slot
    · rw [hn, hrnot, if_pos rfl]
      simp [eq_comm]
    · rw [if_neg hn]
      refine ⟨fun hor => hor.resolve_right fun ⟨_, heq⟩ => hn (by rw [heq]; rfl), .inl⟩
  · rw [hcat]
    exact hs.claims h

theorem handlesExact_handOut {s : State} (hs : HandlesExact s) {q : Fin 4} {h : Handle} {rest : List Handle}
    (hq : s.ready[q] = h :: rest) (hroom : s.claims.length < Config.claimCapacity) : HandlesExact (handOut s q h rest) := by
  obtain ⟨hat, hcur⟩ := (hs.ready q h).1 (by simp [hq])
  obtain ⟨r, c, hr, hst, hc, hcq⟩ := readyAt_eq_some_iff.1 hat
  have hext : (handOut s q h rest).extents = tabSet s.extents h.slot { r with state := .claimed } := by
    simp [handOut, claimExtent, hr]
  have hhead : h ∉ rest := (List.nodup_cons.1 (hq ▸ hs.readyNodup q)).1
  have hrat (n : Nat) : readyAt (handOut s q h rest) n = if n = h.slot then none else readyAt s n := by
    split
    · subst n
      rw [readyAt_of_some (by rw [hext]; exact tabGet_tabSet_same ..)]
      rfl
    · simp [readyAt, hext, tabGet_tabSet_other _ _ ‹_›]
      rfl
  have hcat (n : Nat) : claimedAt (handOut s q h rest) n = if n = h.slot then true else claimedAt s n := by
    split
    · subst n
      rw [claimedAt_of_some (by rw [hext]; exact tabGet_tabSet_same ..)]
      rfl
    · simp [claimedAt, hext, tabGet_tabSet_other _ _ ‹_›]
  have hready (p : Fin 4) (g : Handle) : g ∈ (handOut s q h rest).ready[p] ↔ g ∈ s.ready[p] ∧ g ≠ h := by
    by_cases hp : p = q
    · subst hp
      have : (handOut s p h rest).ready[p] = rest := by simp [handOut]
      rw [this, hq, List.mem_cons]
      exact ⟨fun hg => ⟨.inr hg, fun e => hhead (e ▸ hg)⟩, fun ⟨hor, hne⟩ => hor.resolve_left hne⟩
    · have hne : q.val ≠ p.val := fun e => hp (Fin.ext e.symm)
      have : (handOut s q h rest).ready[p] = s.ready[p] := by simp [handOut, hne]
      rw [this]
      refine ⟨fun hg => ⟨hg, fun e => hp ?_⟩, (·.1)⟩
      have hgat := ((hs.ready p g).1 hg).1
      rw [e, hat] at hgat
      exact (Option.some.inj hgat).symm
  refine ⟨fun p => ?_, fun p g => ?_, ?_, ?_, fun g => ?_⟩
  · by_cases hp : p = q
    · subst hp
      simpa [handOut] using (List.nodup_cons.1 (hq ▸ hs.readyNodup p)).2
    · have hne : q.val ≠ p.val := fun e => hp (Fin.ext e.symm)
      simpa [handOut, hne] using hs.readyNodup p
  · rw [hready, hrat, hs.ready]
    show _ ↔ _ ∧ g = handleOf s g.slot
    by_cases hn : g.slot = h.slot
    · rw [if_pos hn]
      simp only [reduceCtorEq, false_and, iff_false]
      rintro ⟨⟨-, hg⟩, hne⟩
      exact hne (by rw [hg, hn, ← hcur])
    · rw [if_neg hn]
      exact ⟨(·.1), fun hg => ⟨hg, fun e => hn (by rw [e])⟩⟩
  · refine List.nodup_append.2 ⟨hs.claimsNodup, List.nodup_singleton h, ?_⟩
    intro a ha b hb e
    rw [List.mem_singleton.1 hb] at e
    have hclaimed := ((hs.claims a).1 ha).1
    rw [e, claimedAt_of_some hr, hst] at hclaimed
    cases hclaimed
  · simpa [handOut] using hroom
  · show g ∈ s.claims ++ [h] ↔ _ ∧ g = handleOf s g.slot
    rw [List.mem_append, List.mem_singleton, hs.claims, hcat]
    by_cases hn : g.slot = h.slot
    · rw [if_pos hn, hn, claimedAt_of_some hr, hst]
      simp only [beq_iff_eq, reduceCtorEq, false_and, false_or, true_and]
      rw [← hcur]
    · rw [if_neg hn]
      exact ⟨fun hor => hor.resolve_right fun e => hn (by rw [e]), .inl⟩

theorem handlesExact_requeueExtent {s : State} (hs : HandlesExact s) {h : Handle} {r : Extent} {c : Context}
    (hmem : h ∈ s.claims) (hr : tabGet s.extents h.slot = some r) (hc : ctxOf s r.stream = some c) :
    HandlesExact (requeueExtent s h r c.queue) := by
  obtain ⟨hat, hcur⟩ := (hs.claims h).1 hmem
  have hst : r.state = .claimed := by simpa [claimedAt_of_some hr] using hat
  have hrnot : readyAt s h.slot = none := by simp [readyAt_of_some hr, hst]
  have hrat (n : Nat) : readyAt (requeueExtent s h r c.queue) n = if n = h.slot then some c.queue else readyAt s n := by
    split
    · subst n
      rw [readyAt_of_some (tabGet_tabSet_same ..), if_pos rfl]
      exact congrArg (Option.map _) hc
    · simp [readyAt, requeueExtent, tabGet_tabSet_other _ _ ‹_›]
      rfl
  have hcat (n : Nat) : claimedAt (requeueExtent s h r c.queue) n = if n = h.slot then false else claimedAt s n := by
    split
    · subst n
      rw [claimedAt_of_some (tabGet_tabSet_same ..)]
      rfl
    · simp [claimedAt, requeueExtent, tabGet_tabSet_other _ _ ‹_›]
  refine ⟨?_, fun q g => ?_, hs.claimsNodup.filter _, (List.length_filter_le ..).trans hs.claimsLength, fun g => ?_⟩
  · refine nodup_ready_push hs.readyNodup ?_
    rw [hcur]
    exact hs.not_mem_ready (by rw [hrnot]; exact nofun)
  · refine mem_ready_push.trans ?_
    rw [hs.ready, hrat]
    show _ ↔ _ ∧ g = handleOf s g.slot
    by_cases hn : g.slot = h.slot
    · rw [hn, hrnot, if_pos rfl, ← hcur]
      simp [eq_comm]
    · rw [if_neg hn]
      refine ⟨fun hor => hor.resolve_right fun ⟨_, heq⟩ => hn (by rw [heq]), .inl⟩
  · show g ∈ s.claims.filter (fun x => x != h) ↔ _ ∧ g = handleOf s g.slot
    rw [List.mem_filter, hs.claims, hcat]
    by_cases hn : g.slot = h.slot
    · rw [if_pos hn]
      simp only [bne_iff_ne, ne_eq, Bool.false_eq_true, false_and, iff_false, not_and, not_not]
      rintro ⟨-, hg⟩
      rw [hg, hn, ← hcur]
    · rw [if_neg hn]
      exact ⟨(·.1), fun hg => ⟨hg, by simpa using fun e => hn (by rw [e])⟩⟩

/-! ## Dropping records -/

theorem Dropped.tabGet_extents {s t : State} {i : Nat} {c d : Context} {rs : List (Nat × Extent)}
    (h : Dropped s t i c d rs) (n : Nat) :
    tabGet t.extents n = if n ∈ rs.map (·.1) then none else tabGet s.extents n := by
  rw [h.extents]
  refine (tabGet_filter s.extents (fun n => n ∉ rs.map (·.1)) n).trans ?_
  by_cases hn : n ∈ rs.map (·.1) <;> simp [hn]

theorem Dropped.handlesExact {s t : State} {i : Nat} {c d : Context} {rs : List (Nat × Extent)}
    (h : Dropped s t i c d rs) (hs : HandlesExact s) : HandlesExact t := by
  have hqueue (r : Extent) : queueOf t r = queueOf s r := queueOf_setCtx h.context h.queue h.ctxOf r
  have hrat (n : Nat) : readyAt t n = if n ∈ rs.map (·.1) then none else readyAt s n := by
    split
    · exact readyAt_of_none (by rw [h.tabGet_extents, if_pos ‹_›])
    · simp only [readyAt, h.tabGet_extents, if_neg ‹_›, hqueue]
  have hcat (n : Nat) : claimedAt t n = if n ∈ rs.map (·.1) then false else claimedAt s n := by
    split
    · exact claimedAt_of_none (by rw [h.tabGet_extents, if_pos ‹_›])
    · simp only [claimedAt, h.tabGet_extents, if_neg ‹_›]
  have hhandle {n : Nat} (hn : n ∉ rs.map (·.1)) : handleOf t n = handleOf s n := by
    rw [handleOf, h.gens n hn]
    rfl
  refine ⟨fun q => (hs.readyNodup q).sublist (h.readySub q), fun q g => ?_, hs.claimsNodup.sublist h.claimsSub,
    h.claimsSub.length_le.trans hs.claimsLength, fun g => ?_⟩
  · rw [hrat]
    by_cases hn : g.slot ∈ rs.map (·.1)
    · rw [if_pos hn]
      simp only [reduceCtorEq, false_and, iff_false]
      intro hg
      obtain ⟨hat, hcur⟩ := (hs.ready q g).1 ((h.readySub q).subset hg)
      obtain ⟨r, e, hr, hst, he, heq⟩ := readyAt_eq_some_iff.1 hat
      obtain ⟨y, hy, hyn⟩ := List.mem_map.1 hn
      obtain ⟨hyr, hyi⟩ := h.records y hy
      rw [hyn, hr] at hyr
      obtain rfl := Option.some.inj hyr
      rw [hyi, h.context] at he
      obtain rfl := Option.some.inj he
      refine h.readyGone y hy hst ?_
      rw [hyn, ← hcur]
      subst heq
      exact hg
    · rw [if_neg hn, hhandle hn, ← hs.ready]
      exact ⟨fun hg => (h.readySub q).subset hg, fun hg => h.readyKeep q g hg hn⟩
  · rw [hcat]
    by_cases hn : g.slot ∈ rs.map (·.1)
    · rw [if_pos hn]
      simp only [Bool.false_eq_true, false_and, iff_false]
      intro hg
      obtain ⟨hat, hcur⟩ := (hs.claims g).1 (h.claimsSub.subset hg)
      obtain ⟨r, hr, hst⟩ := claimedAt_iff.1 hat
      obtain ⟨y, hy, hyn⟩ := List.mem_map.1 hn
      have hyr := (h.records y hy).1
      rw [hyn, hr] at hyr
      obtain rfl := Option.some.inj hyr
      refine h.claimsGone y hy hst ?_
      rw [hyn, ← hcur]
      exact hg
    · rw [if_neg hn, hhandle hn, ← hs.claims]
      exact ⟨fun hg => h.claimsSub.subset hg, fun hg => h.claimsKeep g hg hn⟩

/-! ## Every move and every step -/

theorem Move.handlesExact {s t : State} (hmove : Move s t) (hl : Ledger s) (hs : HandlesExact s) : HandlesExact t := by
  cases hmove with
  | same h =>
    refine hs.congr h.ready h.claims h.gens (readyAt_congr h.extents fun n r _ => ?_) (claimedAt_congr h.extents)
    rw [queueOf, ctxOf, h.contexts]
    rfl
  | context hc hplace =>
    exact hs.congr rfl rfl rfl (readyAt_congr rfl fun n r _ => queueOf_setCtx hc hplace.queue (fun j => ctxOf_setCtx ..) r)
      (claimedAt_congr rfl)
  | record hr hkept => exact handlesExact_record hs hr hkept
  | create hc => exact handlesExact_createExtent hs hl hc ..
  | seals _ hr hc hun => exact handlesExact_sealedState hs hr hc hun _
  | drop h => exact h.handlesExact hs
  | handOut hq hroom => exact handlesExact_handOut hs hq hroom
  | requeue hj =>
    obtain ⟨hmem, hr, hc⟩ := judgeHandle_eq_ok hj
    exact handlesExact_requeueExtent hs hmem hr hc
  | opens _ hi =>
    refine hs.congr rfl rfl rfl (readyAt_congr rfl fun n r hr => ?_) (claimedAt_congr rfl)
    have hne : r.stream ≠ _ := fun h => by
      have := hl.owned n r hr
      rw [h, hi] at this
      cases this
    rw [queueOf, ctxOf_setCtx_other _ _ hne]
    rfl
  | close hc hheld =>
    refine hs.congr rfl rfl rfl (readyAt_congr rfl fun n r hr => ?_) (claimedAt_congr rfl)
    have hnone := (hl.held _ _ hc).symm.trans hheld
    rw [List.length_eq_zero_iff, recordsOf, List.filter_eq_nil_iff] at hnone
    have hne : r.stream ≠ _ := fun h => hnone _ (mem_of_tabGet hr) (by simpa using h)
    rw [queueOf, ctxOf, tabGet_tabErase_other _ hne]
    rfl
  | configure z low => exact hs.congr rfl rfl rfl (fun _ => rfl) (fun _ => rfl)
  | clear h =>
    have hrat (n : Nat) : readyAt t n = none := readyAt_of_none (by rw [h.extents]; rfl)
    have hcat (n : Nat) : claimedAt t n = false := claimedAt_of_none (by rw [h.extents]; rfl)
    refine ⟨fun q => by rw [h.ready]; exact List.nodup_nil, fun q g => ?_, by rw [h.claims]; exact List.nodup_nil,
      by rw [h.claims]; exact Nat.zero_le _, fun g => ?_⟩
    · rw [h.ready, hrat]
      simp
    · rw [h.claims, hcat]
      simp

/-- Settles O54: the handles stay exact at every move, where the ledger is kept. -/
theorem queuesAndClaimsStayExact : Obligations.QueuesAndClaimsStayExact := by
  unfold Obligations.QueuesAndClaimsStayExact
  intro s t hpool hqueues hclaims hstep
  have hl := (poolTrue_iff_ledger s).1 hpool
  have hkept := kept_step hstep (P := fun u => Ledger u ∧ HandlesExact u) hl.tables
    (fun u v _ hu hmove => ⟨hmove.ledger hu.1, hmove.handlesExact hu.1 hu.2⟩)
    ⟨hl, (handlesExact_iff hl).2 ⟨hqueues, hclaims⟩⟩
  exact (handlesExact_iff hkept.1).1 hkept.2

end Sys2Proof.Machine
end

section
/-! PROOFS. Window positions and extent records stay in step (O55). -/
namespace Sys2Proof.Machine

/-! ## Unsealed records at LIVE positions -/

theorem UnsealedLive.winGet_eq_live {s : State} (hs : UnsealedLive s) {n : Nat} {r : Extent} {c : Context}
    (hr : tabGet s.extents n = some r) (hun : r.state.unsealed = true) (hc : ctxOf s r.stream = some c) :
    winGet c r.index = .live :=
  hs.live (n, r) (mem_of_tabGet hr) hun c hc

theorem UnsealedLive.slot_eq {s : State} (hs : UnsealedLive s) {n m : Nat} {r q : Extent}
    (hr : tabGet s.extents n = some r) (hq : tabGet s.extents m = some q) (hru : r.state.unsealed = true)
    (hqu : q.state.unsealed = true) (hstream : r.stream = q.stream) (hindex : r.index = q.index) : n = m :=
  hs.unique (n, r) (mem_of_tabGet hr) (m, q) (mem_of_tabGet hq) hru hqu hstream hindex

/-- Record `q` of slot `n` of state `s` stands for record `r` of state `t`: it is unsealed with it, and its position is LIVE
where that of `r` is. -/
structure StandsFor (s t : State) (n : Nat) (q r : Extent) : Prop where
  bound : tabGet s.extents n = some q
  unsealed : q.state.unsealed = true
  stream : q.stream = r.stream
  index : q.index = r.index
  live : ∀ c, ctxOf t r.stream = some c → ∃ d, ctxOf s r.stream = some d ∧ (winGet d r.index = .live → winGet c r.index = .live)

/-- Where no unsealed record is new, what holds of the unsealed ones stays. -/
theorem UnsealedLive.of_standsFor {s t : State} (hs : UnsealedLive s) (hw : TablesWf t)
    (h : ∀ n r, tabGet t.extents n = some r → r.state.unsealed = true → ∃ q, StandsFor s t n q r) : UnsealedLive t := by
  refine ⟨fun x hx hun c hc => ?_, fun x hx y hy hxu hyu hstream hindex => ?_⟩
  · obtain ⟨q, hq⟩ := h x.1 x.2 (tabGet_of_mem hw.extents hx) hun
    obtain ⟨d, hd, hlive⟩ := hq.live c hc
    have := hs.winGet_eq_live hq.bound hq.unsealed (by rw [hq.stream]; exact hd)
    exact hlive (hq.index ▸ this)
  · obtain ⟨q, hq⟩ := h x.1 x.2 (tabGet_of_mem hw.extents hx) hxu
    obtain ⟨p, hp⟩ := h y.1 y.2 (tabGet_of_mem hw.extents hy) hyu
    exact hs.slot_eq hq.bound hp.bound hq.unsealed hp.unsealed (by rw [hq.stream, hp.stream, hstream])
      (by rw [hq.index, hp.index, hindex])

/-- A record whose context keeps its window stands for itself. -/
theorem standsFor_of_same {s t : State} {n : Nat} {q r : Extent} (hq : tabGet s.extents n = some q)
    (hun : q.state.unsealed = true) (hstream : q.stream = r.stream) (hindex : q.index = r.index)
    (hctx : ∀ c, ctxOf t r.stream = some c → ∃ d, ctxOf s r.stream = some d ∧ winGet c r.index = winGet d r.index) :
    StandsFor s t n q r :=
  ⟨hq, hun, hstream, hindex, fun c hc => by
    obtain ⟨d, hd, heq⟩ := hctx c hc
    exact ⟨d, hd, fun h => heq.trans h⟩⟩

/-- A context that keeps its edge and its window keeps its positions. -/
theorem winGet_congr {c d : Context} (hedge : d.edge = c.edge) (hwindow : d.window = c.window) (k : Nat) :
    winGet d k = winGet c k := by
  simp only [winGet, hedge, hwindow]

/-! ## The seal -/

/-- The positions after a seal: the sealed extent and what was SEALED before it lies below the edge or is SEALED. -/
theorem winGet_sealedContext (e : Nat) (x : Context) (r : Extent) {k : Nat} (hk : (sealedContext e x r).edge ≤ k) :
    winGet (sealedContext e x r) k = winGet { x with window := winSet x r.index .sealed } k :=
  winGet_advanceEdge { x with window := winSet x r.index .sealed } hk

theorem winGet_sealedContext_other (e : Nat) (x : Context) {r : Extent} {k : Nat} (hk : k ≠ r.index)
    (hlive : winGet x k = .live) : winGet (sealedContext e x r) k = .live := by
  have hset : winGet { x with window := winSet x r.index .sealed } k = .live := by
    rw [winGet_winSet, if_neg (fun h => hk h.1), hlive]
  by_cases hedge : (sealedContext e x r).edge ≤ k
  · rw [winGet_sealedContext e x r hedge, hset]
  · have hlo : x.edge ≤ k := by
      unfold winGet at hlive
      split at hlive
      · exact (‹x.edge ≤ k ∧ k - x.edge < 64›).1
      · cases hlive
    have := winGet_of_passed { x with window := winSet x r.index .sealed } hlo (Nat.not_le.1 hedge)
    rw [hset] at this
    cases this

/-- A LIVE position after a seal was LIVE before, and is not that of the sealed extent. -/
theorem live_of_winGet_sealedContext {e : Nat} {x : Context} {r : Extent} {k : Nat} (hindex : winGet x r.index = .live)
    (h : winGet (sealedContext e x r) k = .live) : k ≠ r.index ∧ winGet x k = .live := by
  have hedge : (sealedContext e x r).edge ≤ k := by
    unfold winGet at h
    split at h
    · exact (‹(sealedContext e x r).edge ≤ k ∧ _›).1
    · cases h
  rw [winGet_sealedContext e x r hedge, winGet_winSet] at h
  split at h
  · cases h
  · rename_i hcond
    refine ⟨fun hk => hcond ⟨hk, ?_⟩, h⟩
    unfold winGet at hindex
    split at hindex
    · assumption
    · cases hindex

theorem edge_le_sealedContext (e : Nat) (x : Context) (r : Extent) : x.edge ≤ (sealedContext e x r).edge :=
  le_advanceEdge_edge { x with window := winSet x r.index .sealed }

/-- What was SEALED or below the edge, and the sealed extent, is so after a seal. -/
theorem sealed_sealedContext {e : Nat} {x : Context} {r : Extent} {k : Nat} (hindex : winGet x r.index = .live)
    (h : k = r.index ∨ k < x.edge ∨ winGet x k = .sealed) :
    k < (sealedContext e x r).edge ∨ winGet (sealedContext e x r) k = .sealed := by
  by_cases hedge : (sealedContext e x r).edge ≤ k
  · right
    rw [winGet_sealedContext e x r hedge, winGet_winSet]
    split
    · rfl
    · rename_i hcond
      rcases h with h | h | h
      · subst h
        unfold winGet at hindex
        split at hindex
        · exact absurd ⟨rfl, by assumption⟩ hcond
        · cases hindex
      · have := edge_le_sealedContext e x r
        omega
      · exact h
  · exact .inl (Nat.not_le.1 hedge)

theorem sealedContext_first (e : Nat) (x : Context) (r : Extent) :
    winGet (sealedContext e x r) (sealedContext e x r).edge ≠ .sealed := by
  rw [winGet_sealedContext e x r (le_refl _)]
  exact winGet_advancedEdge_ne_sealed { x with window := winSet x r.index .sealed }

/-- The contexts after a seal. -/
theorem ctxOf_sealedState (s : State) (slot : Nat) (checked : Bool) (r : Extent) (c : Context) (j : Nat) :
    ctxOf (sealedState s slot checked r c) j =
      if j = r.stream then some (sealedContext (extentBytes s.extentSize) c r) else ctxOf s j :=
  tabGet_tabSet ..

/-- The records after a seal. -/
theorem tabGet_sealedState (s : State) (slot : Nat) (checked : Bool) (r : Extent) (c : Context) (n : Nat) :
    tabGet (sealedState s slot checked r c).extents n =
      if n = slot then some { r with state := .ready, checked := checked } else tabGet s.extents n :=
  tabGet_tabSet ..

theorem unsealedLive_sealedState {s : State} (hs : UnsealedLive s) (hw : TablesWf s) {slot : Nat} {r : Extent} {c : Context}
    (hr : tabGet s.extents slot = some r) (hc : ctxOf s r.stream = some c) (hun : r.state.unsealed = true) (checked : Bool) :
    UnsealedLive (sealedState s slot checked r c) := by
  refine hs.of_standsFor ⟨tabWf_tabSet hw.contexts .., tabWf_tabSet hw.extents ..⟩ fun n q hq hqu => ?_
  rw [tabGet_sealedState] at hq
  split at hq
  · cases hq
    cases hqu
  · rename_i hn
    refine ⟨q, hq, hqu, rfl, rfl, fun d hd => ?_⟩
    rw [ctxOf_sealedState] at hd
    split at hd
    · rename_i hstream
      cases hd
      refine ⟨c, hstream ▸ hc, winGet_sealedContext_other _ c fun hk => hn ?_⟩
      exact hs.slot_eq hq hr hqu hun hstream hk
    · exact ⟨d, hd, id⟩

/-! ## Creating and dropping -/

/-- The record a creation binds is the only one of its extent. -/
theorem unsealed_ne_of_createAllowed {s : State} (hs : UnsealedLive s) {i k n : Nat} {c : Context} {r : Extent}
    (hc : ctxOf s i = some c) (hallowed : CreateAllowed s i c k) (hr : tabGet s.extents n = some r)
    (hun : r.state.unsealed = true) (hstream : r.stream = i) : r.index ≠ k := by
  intro hindex
  have hlive := hs.winGet_eq_live hr hun (hstream ▸ hc)
  have hnone := unsealedRecord_eq_none_iff.1 (hallowed.unbound (hindex ▸ hlive)) (n, r) (mem_of_tabGet hr)
  exact hnone ⟨hstream, hindex, hun⟩

section
variable {s : State} {i k : Nat} {c : Context} (hs : Ledger s) (hc : ctxOf s i = some c)
include hs hc

/-- The records and contexts after a creation from a free-slot list that is not empty. -/
theorem createExtent_tables {slot : Nat} {rest : List Nat} (hfree : s.freeSlots = slot :: rest) (v : Option Pcv) :
    tabGet s.extents slot = none ∧
    (∀ n, tabGet (createExtent s i k v).extents n = if n = slot then some (newExtent i k v) else tabGet s.extents n) ∧
    ∀ j, ctxOf (createExtent s i k v) j =
      if j = i then some (holding c k) else ctxOf s j := by
  rw [createExtent_eq hfree hc k v]
  exact ⟨(freeSlots_of_poolAccounted hs.pool).2 slot (by simp [hfree]), fun n => tabGet_tabSet .., fun j => tabGet_tabSet ..⟩

end

theorem CreateAllowed.inside {s : State} {i k : Nat} {c : Context} (h : CreateAllowed s i c k) :
    c.edge ≤ k ∧ k - c.edge < 64 := by
  have hupper : k < c.edge + 64 := h.upper
  have := h.lower
  omega

theorem unsealedLive_createExtent {s : State} (hs : UnsealedLive s) (hl : Ledger s) {i k : Nat} {c : Context}
    (hc : ctxOf s i = some c) (hallowed : CreateAllowed s i c k) (v : Option Pcv) :
    UnsealedLive (createExtent s i k v) := by
  cases hfree : s.freeSlots with
  | nil => rw [createExtent, hfree]; exact hs
  | cons slot rest =>
    obtain ⟨-, hext, hctx⟩ := createExtent_tables (k := k) hl hc hfree v
    have hw := tablesWf_createExtent hl.tables i k v
    have hlive (n : Nat) (r : Extent) (d : Context) (hr : tabGet (createExtent s i k v).extents n = some r)
        (hun : r.state.unsealed = true) (hd : ctxOf (createExtent s i k v) r.stream = some d) :
        winGet d r.index = .live := by
      rw [hext] at hr
      rw [hctx] at hd
      split at hr
      · cases hr
        rw [if_pos (show (newExtent i k v).stream = i from rfl)] at hd
        cases hd
        exact (winGet_holding ..).trans (if_pos ⟨rfl, hallowed.inside⟩)
      · split at hd
        · cases hd
          rw [winGet_holding]
          split
          · rfl
          · exact hs.winGet_eq_live hr hun (‹r.stream = i› ▸ hc)
        · exact hs.winGet_eq_live hr hun hd
    have hunique (n m : Nat) (r q : Extent) (hr : tabGet (createExtent s i k v).extents n = some r)
        (hq : tabGet (createExtent s i k v).extents m = some q) (hru : r.state.unsealed = true)
        (hqu : q.state.unsealed = true) (hstream : r.stream = q.stream) (hindex : r.index = q.index) : n = m := by
      rw [hext] at hr hq
      split at hr <;> split at hq
      · omega
      · cases hr
        exact absurd hindex.symm (unsealed_ne_of_createAllowed hs hc hallowed hq hqu hstream.symm)
      · cases hq
        exact absurd hindex (unsealed_ne_of_createAllowed hs hc hallowed hr hru hstream)
      · exact hs.slot_eq hr hq hru hqu hstream hindex
    exact ⟨fun x hx hun d hd => hlive x.1 x.2 d (tabGet_of_mem hw.extents hx) hun hd,
      fun x hx y hy => hunique x.1 y.1 x.2 y.2 (tabGet_of_mem hw.extents hx) (tabGet_of_mem hw.extents hy)⟩

/-- A record that remains was there before, and is none of the dropped ones. -/
theorem Dropped.remains {s t : State} {i : Nat} {c d : Context} {rs : List (Nat × Extent)} (h : Dropped s t i c d rs)
    {n : Nat} {r : Extent} (hr : tabGet t.extents n = some r) :
    tabGet s.extents n = some r ∧ ∀ y ∈ rs, y.1 ≠ n := by
  rw [h.tabGet_extents] at hr
  split at hr
  · cases hr
  · exact ⟨hr, fun y hy hn => ‹n ∉ rs.map (·.1)› (List.mem_map.2 ⟨y, hy, hn⟩)⟩

theorem Dropped.unsealedLive {s t : State} {i : Nat} {c d : Context} {rs : List (Nat × Extent)}
    (h : Dropped s t i c d rs) (hs : UnsealedLive s) (hw : TablesWf t) : UnsealedLive t := by
  refine hs.of_standsFor hw fun n r hr hun => ?_
  obtain ⟨hr', hother⟩ := h.remains hr
  refine ⟨r, hr', hun, rfl, rfl, fun e he => ?_⟩
  rw [h.ctxOf] at he
  split at he
  · rename_i hstream
    cases he
    refine ⟨c, hstream ▸ h.context, fun hlive => ?_⟩
    rw [h.window, if_neg, hlive]
    rw [Bool.not_eq_true, List.any_eq_false]
    intro y hy hcond
    simp only [Bool.and_eq_true, beq_iff_eq] at hcond
    obtain ⟨hyr, hyi⟩ := h.records y hy
    exact hother y hy (hs.slot_eq hyr hr' hcond.1 hun (hyi.trans hstream.symm) hcond.2)
  · exact ⟨e, he, id⟩

/-! ## Every move keeps the unsealed records at LIVE positions -/

theorem Move.unsealedLive {s t : State} (hmove : Move s t) (hl : Ledger s) (hs : UnsealedLive s) : UnsealedLive t := by
  have hw := hmove.tablesWf hl.tables
  cases hmove with
  | same h =>
    exact hs.of_standsFor hw fun n r hr hun => ⟨r, standsFor_of_same (h.extents ▸ hr) hun rfl rfl
      fun c hc => ⟨c, by rwa [ctxOf, ← h.contexts], rfl⟩⟩
  | @context i c d hc hplace =>
    refine hs.of_standsFor hw fun n r hr hun => ⟨r, standsFor_of_same hr hun rfl rfl fun e he => ?_⟩
    rw [ctxOf_setCtx] at he
    split at he
    · cases he
      exact ⟨c, ‹r.stream = i› ▸ hc, winGet_congr hplace.edge hplace.window _⟩
    · exact ⟨e, he, rfl⟩
  | @record slot r q hr hkept =>
    refine hs.of_standsFor hw fun n p hp hun => ?_
    rw [setExtent_extents, tabGet_tabSet] at hp
    split at hp
    · cases hp
      have hru : r.state.unsealed = true := hkept.state.elim (fun heq => heq ▸ hun) (·.1)
      exact ⟨r, standsFor_of_same (‹n = slot› ▸ hr) hru hkept.stream.symm hkept.index.symm fun e he => ⟨e, he, rfl⟩⟩
    · exact ⟨p, standsFor_of_same hp hun rfl rfl fun e he => ⟨e, he, rfl⟩⟩
  | create hc hallowed => exact unsealedLive_createExtent hs hl hc hallowed _
  | seals _ hr hc hun => exact unsealedLive_sealedState hs hl.tables hr hc hun _
  | drop h => exact h.unsealedLive hs hw
  | @handOut q h rest hq =>
    refine hs.of_standsFor hw fun n r hr hun => ?_
    rw [Machine.handOut, tabGet_claimExtent] at hr
    split at hr
    · obtain ⟨p, -, rfl⟩ := Option.map_eq_some_iff.1 hr
      cases hun
    · exact ⟨r, standsFor_of_same hr hun rfl rfl fun e he => ⟨e, he, rfl⟩⟩
  | @requeue h r c hj =>
    refine hs.of_standsFor hw fun n p hp hun => ?_
    rw [requeueExtent, tabGet_tabSet] at hp
    split at hp
    · cases hp
      cases hun
    · exact ⟨p, standsFor_of_same hp hun rfl rfl fun e he => ⟨e, he, rfl⟩⟩
  | @opens i d _ hi =>
    refine hs.of_standsFor hw fun n r hr hun => ⟨r, standsFor_of_same hr hun rfl rfl fun e he => ?_⟩
    rw [ctxOf_setCtx] at he
    split at he
    · have := hl.owned n r hr
      rw [‹r.stream = i›, hi] at this
      cases this
    · exact ⟨e, he, rfl⟩
  | @close i c hc =>
    refine hs.of_standsFor hw fun n r hr hun => ⟨r, standsFor_of_same hr hun rfl rfl fun e he => ?_⟩
    rw [ctxOf, tabGet_tabErase] at he
    split at he
    · cases he
    · exact ⟨e, he, rfl⟩
  | configure => exact ⟨hs.live, hs.unique⟩
  | clear h =>
    have hnone (x : Nat × Extent) : x ∉ t.extents := by rw [h.extents]; exact List.not_mem_nil
    exact ⟨fun x hx => absurd hx (hnone x), fun x hx => absurd hx (hnone x)⟩

/-! ## Windows and records, read through the tables -/

/-- `WindowsTrue` with the tables read by number and the positions by extent. -/
structure Windows (s : State) : Prop where
  live : UnsealedLive s
  held : ∀ i c k, ctxOf s i = some c → winGet c k = .live →
    ∃ n r, tabGet s.extents n = some r ∧ r.stream = i ∧ r.index = k ∧ r.state.unsealed = true
  passed : ∀ n r c, tabGet s.extents n = some r → r.state.unsealed = false → ctxOf s r.stream = some c →
    r.index < c.edge ∨ winGet c r.index = .sealed
  first : ∀ i c, ctxOf s i = some c → winGet c c.edge ≠ .sealed
  unique : ∀ n m r q, tabGet s.extents n = some r → tabGet s.extents m = some q → r.stream = q.stream →
    r.index = q.index → n = m

theorem winGet_eq_live_iff {c : Context} {k : Nat} : winGet c k = .live ↔ ∃ p : Fin 64, c.window[p] = .live ∧ k = c.edge + p := by
  constructor
  · intro h
    unfold winGet at h
    split at h
    · rename_i hin
      exact ⟨⟨k - c.edge, hin.2⟩, h, by dsimp only; omega⟩
    · cases h
  · rintro ⟨p, hp, rfl⟩
    rw [winGet_add, hp]

theorem winGet_edge (c : Context) : winGet c c.edge = c.window[0] := winGet_add c 0

theorem windowsTrue_iff {s : State} (hw : TablesWf s) : WindowsTrue s ↔ Windows s := by
  have hkeys : (s.extents.map (fun x => (x.2.stream, x.2.index))).Nodup ↔
      ∀ n m r q, tabGet s.extents n = some r → tabGet s.extents m = some q → r.stream = q.stream →
        r.index = q.index → n = m := by
    rw [List.nodup_map_iff_inj_on (tabWf_nodup hw.extents).of_map]
    constructor
    · intro h n m r q hr hq hstream hindex
      exact congrArg Prod.fst (h _ (mem_of_tabGet hr) _ (mem_of_tabGet hq) (Prod.ext hstream hindex))
    · rintro h ⟨n, r⟩ hr ⟨m, q⟩ hq heq
      have hr' := tabGet_of_mem hw.extents hr
      have hq' := tabGet_of_mem hw.extents hq
      obtain ⟨hstream, hindex⟩ := Prod.mk.inj heq
      obtain rfl := h n m r q hr' hq' hstream hindex
      rw [Option.some.inj (hr'.symm.trans hq')]
  constructor
  · rintro ⟨hrecords, hlive, hfirst, hnodup⟩
    have hunique := hkeys.1 hnodup
    refine ⟨⟨fun x hx hun c hc => ?_, fun x hx y hy _ _ => ?_⟩, fun i c k hc hk => ?_, fun n r c hr hun hc => ?_,
      fun i c hc => ?_, hunique⟩
    · have := hrecords x hx c hc
      rwa [if_pos hun] at this
    · exact hunique x.1 y.1 x.2 y.2 (tabGet_of_mem hw.extents hx) (tabGet_of_mem hw.extents hy)
    · obtain ⟨p, hp, rfl⟩ := winGet_eq_live_iff.1 hk
      obtain ⟨x, hx, hstream, hindex, hun⟩ := hlive (i, c) (mem_of_tabGet hc) p hp
      exact ⟨x.1, x.2, tabGet_of_mem hw.extents hx, hstream, hindex, hun⟩
    · have := hrecords (n, r) (mem_of_tabGet hr) c hc
      rwa [if_neg (by simp [hun])] at this
    · rw [winGet_edge]
      exact hfirst (i, c) (mem_of_tabGet hc)
  · intro h
    refine ⟨fun x hx c hc => ?_, fun y hy p hp => ?_, fun y hy => ?_, hkeys.2 h.unique⟩
    · split
      · exact h.live.live x hx ‹_› c hc
      · exact h.passed x.1 x.2 c (tabGet_of_mem hw.extents hx) (Bool.not_eq_true _ ▸ ‹¬ x.2.state.unsealed = true›) hc
    · obtain ⟨n, r, hr, hstream, hindex, hun⟩ :=
        h.held y.1 y.2 (y.2.edge + p) (tabGet_of_mem hw.contexts hy) (winGet_eq_live_iff.2 ⟨p, hp, rfl⟩)
      exact ⟨(n, r), mem_of_tabGet hr, hstream, hindex, hun⟩
    · rw [← winGet_edge]
      exact h.first y.1 y.2 (tabGet_of_mem hw.contexts hy)

/-! ## Changes that no window sees -/

/-- Record `r` has the stream and the extent of record `q`, and is unsealed with it. -/
structure SamePlace (q r : Extent) : Prop where
  stream : r.stream = q.stream
  index : r.index = q.index
  unsealed : r.state.unsealed = q.state.unsealed

/-- The records of `t` stand where those of `s` stood, and its contexts have the windows of those of `s`. -/
structure SameWindows (s t : State) : Prop where
  records : ∀ n r, tabGet t.extents n = some r → ∃ q, tabGet s.extents n = some q ∧ SamePlace q r
  back : ∀ n q, tabGet s.extents n = some q → ∃ r, tabGet t.extents n = some r ∧ SamePlace q r
  contexts : ∀ i d, ctxOf t i = some d → ∃ c, ctxOf s i = some c ∧ d.edge = c.edge ∧ d.window = c.window

theorem SameWindows.windows {s t : State} (h : SameWindows s t) (hlive : UnsealedLive t) (hs : Windows s) : Windows t := by
  refine ⟨hlive, fun i d k hd hk => ?_, fun n r d hr hun hd => ?_, fun i d hd => ?_, fun n m r q hr hq hstream hindex => ?_⟩
  · obtain ⟨c, hc, hedge, hwindow⟩ := h.contexts i d hd
    obtain ⟨n, q, hq, hstream, hindex, hun⟩ := hs.held i c k hc (winGet_congr hedge hwindow k ▸ hk)
    obtain ⟨r, hr, hplace⟩ := h.back n q hq
    exact ⟨n, r, hr, hplace.stream.trans hstream, hplace.index.trans hindex, hplace.unsealed.trans hun⟩
  · obtain ⟨q, hq, hplace⟩ := h.records n r hr
    obtain ⟨c, hc, hedge, hwindow⟩ := h.contexts _ d hd
    have := hs.passed n q c hq (hplace.unsealed.symm.trans hun) (hplace.stream ▸ hc)
    rwa [winGet_congr hedge hwindow, hedge, hplace.index]
  · obtain ⟨c, hc, hedge, hwindow⟩ := h.contexts i d hd
    rw [winGet_congr hedge hwindow, hedge]
    exact hs.first i c hc
  · obtain ⟨r', hr', hrp⟩ := h.records n r hr
    obtain ⟨q', hq', hqp⟩ := h.records m q hq
    exact hs.unique n m r' q' hr' hq' (by rw [← hrp.stream, ← hqp.stream, hstream])
      (by rw [← hrp.index, ← hqp.index, hindex])

/-- One bound record rewritten in its place. -/
theorem sameWindows_tabSet {s t : State} {slot : Nat} {q r : Extent} (hq : tabGet s.extents slot = some q)
    (hplace : SamePlace q r) (hext : t.extents = tabSet s.extents slot r) (hctx : t.contexts = s.contexts) :
    SameWindows s t := by
  have hget (n : Nat) : tabGet t.extents n = if n = slot then some r else tabGet s.extents n := by
    rw [hext]
    exact tabGet_tabSet ..
  refine ⟨fun n p hp => ?_, fun n p hp => ?_, fun i d hd => ⟨d, by rwa [ctxOf, ← hctx], rfl, rfl⟩⟩
  · rw [hget] at hp
    split at hp
    · cases hp
      exact ⟨q, ‹n = slot› ▸ hq, hplace⟩
    · exact ⟨p, hp, rfl, rfl, rfl⟩
  · rw [hget]
    split
    · rw [‹n = slot›, hq] at hp
      cases hp
      exact ⟨r, rfl, hplace⟩
    · exact ⟨p, hp, rfl, rfl, rfl⟩

/-! ## Creating, sealing and dropping -/

/-- An extent whose record may be created has no record. -/
theorem Windows.unbound_of_createAllowed {s : State} (hs : Windows s) {i k n : Nat} {c : Context} {r : Extent}
    (hc : ctxOf s i = some c) (hallowed : CreateAllowed s i c k) (hr : tabGet s.extents n = some r)
    (hstream : r.stream = i) : r.index ≠ k := by
  intro hindex
  cases hun : r.state.unsealed with
  | true => exact unsealed_ne_of_createAllowed hs.live hc hallowed hr hun hstream hindex
  | false =>
    have hlower := hallowed.lower
    obtain hlt | hsealed := hs.passed n r c hr hun (hstream ▸ hc)
    · omega
    · exact hallowed.notSealed (hindex ▸ hsealed)

theorem windows_createExtent {s : State} (hs : Windows s) (hl : Ledger s) {i k : Nat} {c : Context}
    (hc : ctxOf s i = some c) (hallowed : CreateAllowed s i c k) (v : Option Pcv) : Windows (createExtent s i k v) := by
  cases hfree : s.freeSlots with
  | nil => rw [createExtent, hfree]; exact hs
  | cons slot rest =>
    obtain ⟨hunbound, hext, hctx⟩ := createExtent_tables (k := k) hl hc hfree v
    refine ⟨unsealedLive_createExtent hs.live hl hc hallowed v, fun j d l hd hlive => ?_, fun n r d hr hun hd => ?_,
      fun j d hd => ?_, fun n m r q hr hq hstream hindex => ?_⟩
    · have hold (e : Context) (he : ctxOf s j = some e) (hl : winGet e l = .live) :
          ∃ n r, tabGet (createExtent s i k v).extents n = some r ∧ r.stream = j ∧ r.index = l ∧
            r.state.unsealed = true := by
        obtain ⟨n, r, hr, hrest⟩ := hs.held j e l he hl
        exact ⟨n, r, by rw [hext, if_neg fun h => by rw [h, hunbound] at hr; cases hr]; exact hr, hrest⟩
      rw [hctx] at hd
      split at hd
      · cases hd
        rw [winGet_holding] at hlive
        split at hlive
        · exact ⟨slot, newExtent i k v, by rw [hext, if_pos rfl], by rw [‹j = i›]; rfl, (‹l = k ∧ _›).1.symm, rfl⟩
        · exact hold c (‹j = i› ▸ hc) hlive
      · exact hold d hd hlive
    · rw [hext] at hr
      split at hr
      · cases hr
        cases hun
      · rw [hctx] at hd
        split at hd
        · rename_i hstream
          cases hd
          rw [winGet_holding, if_neg fun h => hs.unbound_of_createAllowed hc hallowed hr hstream h.1]
          exact hs.passed n r c hr hun (hstream ▸ hc)
        · exact hs.passed n r d hr hun hd
    · rw [hctx] at hd
      split at hd
      · cases hd
        rw [winGet_holding]
        split
        · exact nofun
        · exact hs.first i c hc
      · exact hs.first j d hd
    · rw [hext] at hr hq
      split at hr <;> split at hq
      · omega
      · cases hr
        exact absurd hindex.symm (hs.unbound_of_createAllowed hc hallowed hq hstream.symm)
      · cases hq
        exact absurd hindex (hs.unbound_of_createAllowed hc hallowed hr hstream)
      · exact hs.unique n m r q hr hq hstream hindex

theorem windows_sealedState {s : State} (hs : Windows s) (hw : TablesWf s) {slot : Nat} {r : Extent} {c : Context}
    (hr : tabGet s.extents slot = some r) (hc : ctxOf s r.stream = some c) (hun : r.state.unsealed = true)
    (checked : Bool) : Windows (sealedState s slot checked r c) := by
  have hlive := hs.live.winGet_eq_live hr hun hc
  refine ⟨unsealedLive_sealedState hs.live hw hr hc hun checked, fun j d l hd hl => ?_, fun n q d hq hqu hd => ?_,
    fun j d hd => ?_, fun n m p q hp hq hstream hindex => ?_⟩
  · have hold (e : Context) (he : ctxOf s j = some e) (hl : winGet e l = .live) (hne : j = r.stream → l ≠ r.index) :
        ∃ n q, tabGet (sealedState s slot checked r c).extents n = some q ∧ q.stream = j ∧ q.index = l ∧
          q.state.unsealed = true := by
      obtain ⟨n, q, hq, hstream, hindex, hqu⟩ := hs.held j e l he hl
      refine ⟨n, q, ?_, hstream, hindex, hqu⟩
      rw [tabGet_sealedState, if_neg fun h => ?_]
      · exact hq
      · rw [h, hr] at hq
        cases hq
        exact hne hstream.symm hindex.symm
    rw [ctxOf_sealedState] at hd
    split at hd
    · cases hd
      obtain ⟨hne, hl'⟩ := live_of_winGet_sealedContext hlive hl
      exact hold c (‹j = r.stream› ▸ hc) hl' fun _ => hne
    · exact hold d hd hl fun h => absurd h ‹_›
  · have hcases : q.stream = r.stream ∧ q.index = r.index ∨ tabGet s.extents n = some q := by
      rw [tabGet_sealedState] at hq
      split at hq
      · cases hq
        exact .inl ⟨rfl, rfl⟩
      · exact .inr hq
    rw [ctxOf_sealedState] at hd
    split at hd
    · rename_i hstream
      cases hd
      refine sealed_sealedContext hlive ?_
      obtain ⟨-, hindex⟩ | hq' := hcases
      · exact .inl hindex
      · exact .inr (hs.passed n q c hq' hqu (hstream ▸ hc))
    · rename_i hstream
      obtain ⟨hsame, -⟩ | hq' := hcases
      · exact absurd hsame hstream
      · exact hs.passed n q d hq' hqu hd
  · rw [ctxOf_sealedState] at hd
    split at hd
    · cases hd
      exact sealedContext_first _ c r
    · exact hs.first j d hd
  · have hold (n : Nat) (p : Extent) (hp : tabGet (sealedState s slot checked r c).extents n = some p) :
        ∃ o, tabGet s.extents n = some o ∧ o.stream = p.stream ∧ o.index = p.index := by
      rw [tabGet_sealedState] at hp
      split at hp
      · cases hp
        exact ⟨r, ‹n = slot› ▸ hr, rfl, rfl⟩
      · exact ⟨p, hp, rfl, rfl⟩
    obtain ⟨p', hp', hps, hpi⟩ := hold n p hp
    obtain ⟨q', hq', hqs, hqi⟩ := hold m q hq
    exact hs.unique n m p' q' hp' hq' (by rw [hps, hqs, hstream]) (by rw [hpi, hqi, hindex])

theorem Dropped.windows {s t : State} {i : Nat} {c d : Context} {rs : List (Nat × Extent)} (h : Dropped s t i c d rs)
    (hs : Windows s) (hw : TablesWf t) : Windows t := by
  refine ⟨h.unsealedLive hs.live hw, fun j e l he hl => ?_, fun n r e hr hun he => ?_, fun j e he => ?_,
    fun n m r q hr hq => hs.unique n m r q (h.remains hr).1 (h.remains hq).1⟩
  · have hold (f : Context) (hf : Machine.ctxOf s j = some f) (hl : winGet f l = .live)
        (hne : j = i → ∀ y ∈ rs, y.2.state.unsealed = true → y.2.index ≠ l) :
        ∃ n q, tabGet t.extents n = some q ∧ q.stream = j ∧ q.index = l ∧ q.state.unsealed = true := by
      obtain ⟨n, q, hq, hstream, hindex, hqu⟩ := hs.held j f l hf hl
      refine ⟨n, q, ?_, hstream, hindex, hqu⟩
      rw [h.tabGet_extents, if_neg fun hn => ?_]
      · exact hq
      · obtain ⟨y, hy, hyn⟩ := List.mem_map.1 hn
        obtain ⟨hyr, hyi⟩ := h.records y hy
        rw [hyn, hq] at hyr
        cases hyr
        exact hne (hstream.symm.trans hyi) y hy hqu hindex
    rw [h.ctxOf] at he
    split at he
    · cases he
      rw [h.window] at hl
      split at hl
      · cases hl
      · rename_i hnone
        rw [Bool.not_eq_true, List.any_eq_false] at hnone
        exact hold c (‹j = i› ▸ h.context) hl fun _ y hy hyu hyi => hnone y hy (by simp [hyu, hyi])
    · exact hold e he hl fun hji => absurd hji ‹_›
  · obtain ⟨hr', hother⟩ := h.remains hr
    rw [h.ctxOf] at he
    split at he
    · rename_i hstream
      cases he
      rw [h.edge, h.window, if_neg]
      · exact hs.passed n r c hr' hun (hstream ▸ h.context)
      · rw [Bool.not_eq_true, List.any_eq_false]
        intro y hy hcond
        simp only [Bool.and_eq_true, beq_iff_eq] at hcond
        obtain ⟨hyr, hyi⟩ := h.records y hy
        exact hother y hy (hs.unique _ _ _ _ hyr hr' (hyi.trans hstream.symm) hcond.2)
    · exact hs.passed n r e hr' hun he
  · rw [h.ctxOf] at he
    split at he
    · cases he
      rw [h.edge, h.window]
      split
      · exact nofun
      · exact hs.first i c h.context
    · exact hs.first j e he

/-! ## Every move and every step -/

theorem Move.windows {s t : State} (hmove : Move s t) (hl : Ledger s) (hh : HandlesExact s) (hs : Windows s) :
    Windows t := by
  have hw := hmove.tablesWf hl.tables
  have hlive := hmove.unsealedLive hl hs.live
  cases hmove with
  | same h =>
    refine SameWindows.windows (s := s) ⟨fun n r hr => ?_, fun n r hr => ?_, fun i d hd => ?_⟩ hlive hs
    · exact ⟨r, h.extents ▸ hr, rfl, rfl, rfl⟩
    · exact ⟨r, h.extents ▸ hr, rfl, rfl, rfl⟩
    · exact ⟨d, by rwa [ctxOf, ← h.contexts], rfl, rfl⟩
  | @context i c d hc hplace =>
    refine SameWindows.windows (s := s) ⟨fun n r hr => ⟨r, hr, rfl, rfl, rfl⟩, fun n r hr => ⟨r, hr, rfl, rfl, rfl⟩,
      fun j e he => ?_⟩ hlive hs
    rw [ctxOf_setCtx] at he
    split at he
    · cases he
      exact ⟨c, ‹j = i› ▸ hc, hplace.edge, hplace.window⟩
    · exact ⟨e, he, rfl, rfl⟩
  | @record slot r q hr hkept =>
    have hplace : SamePlace r q := ⟨hkept.stream, hkept.index,
      hkept.state.elim (fun heq => by rw [heq]) fun hun => by rw [hun.1, hun.2]⟩
    exact (sameWindows_tabSet (t := setExtent s slot q) hr hplace rfl rfl).windows hlive hs
  | create hc hallowed => exact windows_createExtent hs hl hc hallowed _
  | seals _ hr hc hun => exact windows_sealedState hs hl.tables hr hc hun _
  | drop h => exact h.windows hs hw
  | @handOut q h rest hq =>
    obtain ⟨hat, -⟩ := (hh.ready q h).1 (by simp [hq])
    obtain ⟨r, c, hr, hst, -⟩ := readyAt_eq_some_iff.1 hat
    refine (sameWindows_tabSet (t := Machine.handOut s q h rest) hr (r := { r with state := .claimed }) ⟨rfl, rfl, by rw [hst]; rfl⟩
      ?_ rfl).windows hlive hs
    simp [Machine.handOut, claimExtent, hr]
  | @requeue h r c hj =>
    obtain ⟨hmem, hr, -⟩ := judgeHandle_eq_ok hj
    obtain ⟨q, hq, hst⟩ := claimedAt_iff.1 ((hh.claims h).1 hmem).1
    rw [hr] at hq
    cases hq
    have hplace : SamePlace r { r with state := .ready, storeAttempts := r.storeAttempts + 1 } :=
      ⟨rfl, rfl, by rw [hst]; rfl⟩
    exact (sameWindows_tabSet (t := requeueExtent s h r c.queue) hr hplace rfl rfl).windows hlive hs
  | @opens i d _ hi _ hfresh =>
    have hwin (k : Nat) : winGet d k = .absent := by
      simp [winGet, hfresh.window]
    refine ⟨hlive, fun j e k he hk => ?_, fun n r e hr hun he => ?_, fun j e he => ?_, hs.unique⟩
    · rw [ctxOf_setCtx] at he
      split at he
      · cases he
        rw [hwin] at hk
        cases hk
      · exact hs.held j e k he hk
    · rw [ctxOf_setCtx] at he
      split at he
      · have := hl.owned n r hr
        rw [‹r.stream = i›, hi] at this
        cases this
      · exact hs.passed n r e hr hun he
    · rw [ctxOf_setCtx] at he
      split at he
      · cases he
        rw [hwin]
        exact nofun
      · exact hs.first j e he
  | @close i c hc =>
    refine SameWindows.windows (s := s) ⟨fun n r hr => ⟨r, hr, rfl, rfl, rfl⟩, fun n r hr => ⟨r, hr, rfl, rfl, rfl⟩,
      fun j e he => ?_⟩ hlive hs
    rw [ctxOf, tabGet_tabErase] at he
    split at he
    · cases he
    · exact ⟨e, he, rfl, rfl⟩
  | configure => exact ⟨hlive, hs.held, hs.passed, hs.first, hs.unique⟩
  | clear h =>
    have hext (n : Nat) : tabGet t.extents n = none := by rw [h.extents]; rfl
    have hctx (j : Nat) : ctxOf t j = none := by rw [ctxOf, h.contexts]; rfl
    refine ⟨hlive, fun j e k he => ?_, fun n r e hr => ?_, fun j e he => ?_, fun n m r q hr => ?_⟩
    · rw [hctx] at he; cases he
    · rw [hext] at hr; cases hr
    · rw [hctx] at he; cases he
    · rw [hext] at hr; cases hr

/-- Settles O55: the windows stay in step at every move, where ledger and handles are kept. -/
theorem windowsStayTrue : Obligations.WindowsStayTrue := by
  unfold Obligations.WindowsStayTrue
  intro s t hpool hqueues hclaims hwindows hstep
  have hl := (poolTrue_iff_ledger s).1 hpool
  obtain ⟨hl', -, hw'⟩ := kept_step hstep (P := fun u => Ledger u ∧ HandlesExact u ∧ Windows u) hl.tables
    (fun u v _ ⟨hlu, hhu, hwu⟩ hmove => ⟨hmove.ledger hlu, hmove.handlesExact hlu hhu, hmove.windows hlu hhu hwu⟩)
    ⟨hl, (handlesExact_iff hl).2 ⟨hqueues, hclaims⟩, (windowsTrue_iff hl.tables).1 hwindows⟩
  exact (windowsTrue_iff hl'.tables).2 hw'

end Sys2Proof.Machine
end

section
/-! PROOFS. Every context stays as its state and its L require (O56). -/
namespace Sys2Proof.Machine

/-! ## What a context's state and L see of its records -/

theorem mem_recordsOf {s : State} (hw : tabWf s.extents = true) {i : Nat} {x : Nat × Extent} :
    x ∈ recordsOf s i ↔ tabGet s.extents x.1 = some x.2 ∧ x.2.stream = i := by
  rw [recordsOf, List.mem_filter, beq_iff_eq, ← mem_iff_tabGet hw]

/-- Record `r` may stand in the place of record `q` on a stream with context `c`, as far as the state of the stream goes. -/
structure StateKept (c : Context) (q r : Extent) : Prop where
  stream : r.stream = q.stream
  index : r.index = q.index
  state : r.state = q.state ∨ q.state.unsealed = true ∨ r.state = .claimed ∨ (c.state ≠ .withdrawing ∧ r.state = .ready)

theorem StateKept.refl (c : Context) (q : Extent) : StateKept c q q := ⟨rfl, rfl, .inl rfl⟩

/-- The records of stream `i` in `t` are those in `s`, each kept. -/
structure RecordsKept (s t : State) (i : Nat) (c : Context) : Prop where
  kept : ∀ n r, tabGet t.extents n = some r → r.stream = i → ∃ q, tabGet s.extents n = some q ∧ StateKept c q r
  back : ∀ n q, tabGet s.extents n = some q → q.stream = i → ∃ r, tabGet t.extents n = some r ∧ r.stream = i

/-- A sealed record of a stream in DONE or FAILED stays sealed. -/
theorem StateKept.sealed {c : Context} {q r : Extent} (h : StateKept c q r) (hq : q.state = .ready ∨ q.state = .claimed) :
    r.state = .ready ∨ r.state = .claimed := by
  obtain heq | hun | hclaimed | ⟨-, hready⟩ := h.state
  · rwa [heq]
  · rcases hq with hq | hq <;> rw [hq] at hun <;> cases hun
  · exact .inr hclaimed
  · exact .inl hready

theorem StateKept.claimed {c : Context} {q r : Extent} (h : StateKept c q r) (hst : c.state = .withdrawing)
    (hq : q.state = .claimed) : r.state = .claimed := by
  obtain heq | hun | hclaimed | ⟨hne, -⟩ := h.state
  · rwa [heq]
  · rw [hq] at hun
    cases hun
  · exact hclaimed
  · exact absurd hst hne

theorem RecordsKept.streamTrue {s t : State} {i : Nat} {c : Context} (h : RecordsKept s t i c) (hw : TablesWf s)
    (hwt : TablesWf t) (hsize : t.extentSize = s.extentSize) (hs : StreamTrue s i c) : StreamTrue t i c := by
  have hold (x : Nat × Extent) (hx : x ∈ recordsOf t i) : ∃ y ∈ recordsOf s i, StateKept c y.2 x.2 := by
    obtain ⟨hx, hstream⟩ := (mem_recordsOf hwt.extents).1 hx
    obtain ⟨q, hq, hkept⟩ := h.kept x.1 x.2 hx hstream
    exact ⟨(x.1, q), (mem_recordsOf hw.extents).2 ⟨hq, hkept.stream ▸ hstream⟩, hkept⟩
  obtain ⟨hstate, hlength⟩ := hs
  refine ⟨?_, fun l hl => ?_⟩
  · unfold StateTrue at hstate ⊢
    cases hst : c.state with
    | opened => rwa [hst] at hstate
    | ending => rwa [hst] at hstate
    | done =>
      rw [hst] at hstate
      obtain ⟨h1, h2, h3, hsealed⟩ := hstate
      refine ⟨h1, h2, h3, fun x hx => ?_⟩
      obtain ⟨y, hy, hkept⟩ := hold x hx
      exact hkept.sealed (hsealed y hy)
    | failed =>
      rw [hst] at hstate
      obtain ⟨h1, h2, hsealed⟩ := hstate
      refine ⟨h1, h2, fun x hx => ?_⟩
      obtain ⟨y, hy, hkept⟩ := hold x hx
      exact hkept.sealed (hsealed y hy)
    | withdrawing =>
      rw [hst] at hstate
      obtain ⟨h1, h2, hsome, hclaimed⟩ := hstate
      refine ⟨h1, h2, fun hnil => ?_, fun x hx => ?_⟩
      · obtain ⟨y, hy⟩ := List.exists_mem_of_ne_nil _ hsome
        obtain ⟨hy, hstream⟩ := (mem_recordsOf hw.extents).1 hy
        obtain ⟨r, hr, hri⟩ := h.back y.1 y.2 hy hstream
        have hmem : (y.1, r) ∈ recordsOf t i := (mem_recordsOf hwt.extents).2 ⟨hr, hri⟩
        rw [hnil] at hmem
        cases hmem
      · obtain ⟨y, hy, hkept⟩ := hold x hx
        exact hkept.claimed hst (hclaimed y hy)
  · obtain ⟨hmax, hedge, hsealed, hrecords, hdone⟩ := hlength l hl
    rw [hsize]
    refine ⟨hmax, hedge, hsealed, fun x hx => ?_, hdone⟩
    obtain ⟨y, hy, hkept⟩ := hold x hx
    rw [hkept.index]
    exact hrecords y hy

/-- The records of a stream are kept where the table is the same for it. -/
theorem recordsKept_of_iff {s t : State} {i : Nat} {c : Context}
    (h : ∀ n r, r.stream = i → (tabGet t.extents n = some r ↔ tabGet s.extents n = some r)) : RecordsKept s t i c :=
  ⟨fun n r hr hri => ⟨r, (h n r hri).1 hr, .refl c r⟩, fun n r hr hri => ⟨r, (h n r hri).2 hr, hri⟩⟩

/-- One bound record rewritten in its place. -/
theorem recordsKept_tabSet {s t : State} {slot i : Nat} {c : Context} {q r : Extent} (hq : tabGet s.extents slot = some q)
    (hext : ∀ n, tabGet t.extents n = if n = slot then some r else tabGet s.extents n) (hstream : r.stream = q.stream)
    (hkept : q.stream = i → StateKept c q r) : RecordsKept s t i c := by
  refine ⟨fun n p hp hpi => ?_, fun n p hp hpi => ?_⟩
  · rw [hext] at hp
    split at hp
    · cases hp
      exact ⟨q, ‹n = slot› ▸ hq, hkept (hstream ▸ hpi)⟩
    · exact ⟨p, hp, .refl c p⟩
  · rw [hext]
    split
    · rw [‹n = slot›, hq] at hp
      cases hp
      exact ⟨r, rfl, hstream.trans hpi⟩
    · exact ⟨p, hp, hpi⟩

/-! ## Creating and sealing -/

theorem streamTrue_of_running {s : State} {i : Nat} {c : Context} (hrun : c.state.running = true)
    (hs : StateTrue s i c) : (c.state = .opened ∧ c.length = none ∧ c.cause = none) ∨
      (c.state = .ending ∧ c.length.isSome = true ∧ c.cause = none) := by
  unfold StateTrue at hs
  cases hst : c.state with
  | opened => rw [hst] at hs; exact .inl ⟨rfl, hs⟩
  | ending => rw [hst] at hs; exact .inr ⟨rfl, hs⟩
  | done => rw [hst] at hrun; cases hrun
  | failed => rw [hst] at hrun; cases hrun
  | withdrawing => rw [hst] at hrun; cases hrun

/-- What a state asks of a stream that runs does not speak of its records. -/
theorem stateTrue_of_running {s t : State} {i : Nat} {c d : Context} (hrun : c.state.running = true)
    (hs : StateTrue s i c) (hstate : d.state = c.state) (hlength : d.length = c.length) (hcause : d.cause = c.cause) :
    StateTrue t i d := by
  unfold StateTrue
  rw [hstate, hlength, hcause]
  obtain ⟨hst, h⟩ | ⟨hst, h⟩ := streamTrue_of_running hrun hs
  · rw [hst]; exact h
  · rw [hst]; exact h

theorem streamTrue_createExtent {s : State} (hl : Ledger s) {i k : Nat} {c : Context} (hc : ctxOf s i = some c)
    (hallowed : CreateAllowed s i c k) {slot : Nat} {rest : List Nat} (hfree : s.freeSlots = slot :: rest)
    (v : Option Pcv) (hs : StreamTrue s i c) : StreamTrue (createExtent s i k v) i (holding c k) := by
  obtain ⟨-, hext, -⟩ := createExtent_tables (k := k) hl hc hfree v
  have hw := tablesWf_createExtent hl.tables i k v
  refine ⟨stateTrue_of_running hallowed.running hs.1 rfl rfl rfl, fun l hl' => ?_⟩
  obtain ⟨hmax, hedge, hsealed, hrecords, -⟩ := hs.2 l hl'
  have hsize : (createExtent s i k v).extentSize = s.extentSize := (heldWork_createExtent ..).extentSize
  rw [hsize]
  refine ⟨hmax, hedge, fun p hp => ?_, fun x hx => ?_, fun hdone => ?_⟩
  · have hwin : winGet (holding c k) (c.edge + p) = .sealed := (winGet_add (holding c k) p).trans hp
    rw [winGet_holding] at hwin
    split at hwin
    · cases hwin
    · exact hsealed p ((winGet_add c p).symm.trans hwin)
  · obtain ⟨hx, hxi⟩ := (mem_recordsOf hw.extents).1 hx
    rw [hext] at hx
    split at hx
    · rw [← Option.some.inj hx]
      exact hallowed.below l hl'
    · exact hrecords x ((mem_recordsOf hl.tables.extents).2 ⟨hx, hxi⟩)
  · have hrun : c.state.running = true := hallowed.running
    rw [show c.state = .done from hdone] at hrun
    cases hrun

/-- A stream with an unsealed record is in OPEN or ENDING. -/
theorem running_of_unsealed {s : State} (hw : TablesWf s) {i slot : Nat} {c : Context} {r : Extent}
    (hs : StateTrue s i c) (hr : tabGet s.extents slot = some r) (hri : r.stream = i) (hun : r.state.unsealed = true) :
    c.state.running = true := by
  have hmem : (slot, r) ∈ recordsOf s i := (mem_recordsOf hw.extents).2 ⟨hr, hri⟩
  have hnot (h : r.state = .ready ∨ r.state = .claimed) : False := by
    rw [(unsealed_eq_false_iff _).2 h] at hun
    cases hun
  unfold StateTrue at hs
  cases hst : c.state with
  | opened => rfl
  | ending => rfl
  | done =>
    rw [hst] at hs
    exact (hnot (hs.2.2.2 _ hmem)).elim
  | failed =>
    rw [hst] at hs
    exact (hnot (hs.2.2 _ hmem)).elim
  | withdrawing =>
    rw [hst] at hs
    exact (hnot (.inr (hs.2.2.2 _ hmem))).elim

/-- A position SEALED after a seal, or passed by its edge, is that of the sealed extent or was SEALED before. -/
theorem sealed_before_seal {x : Context} {r : Extent} {k : Nat}
    (h : winGet { x with window := winSet x r.index .sealed } k = .sealed) : k = r.index ∨ winGet x k = .sealed := by
  rw [winGet_winSet] at h
  split at h
  · exact .inl (‹k = r.index ∧ _›).1
  · exact .inr h

theorem lt_of_winGet_sealed {n : Nat} {c : Context} (h : ∀ p : Fin 64, c.window[p] = .sealed → c.edge + p.val < n) {k : Nat}
    (hk : winGet c k = .sealed) : k < n := by
  unfold winGet at hk
  split at hk
  · rename_i hin
    have := h ⟨k - c.edge, hin.2⟩ hk
    dsimp only at this
    omega
  · cases hk

theorem streamTrue_sealedState {s : State} (hw : TablesWf s) {slot : Nat} {r : Extent} {c : Context}
    (hr : tabGet s.extents slot = some r) (hun : r.state.unsealed = true) (checked : Bool)
    (hs : StreamTrue s r.stream c) :
    StreamTrue (sealedState s slot checked r c) r.stream (sealedContext (extentBytes s.extentSize) c r) := by
  have hrun := running_of_unsealed hw hs.1 hr rfl hun
  have hmem : (slot, r) ∈ recordsOf s r.stream := (mem_recordsOf hw.extents).2 ⟨hr, rfl⟩
  refine ⟨stateTrue_of_running hrun hs.1 rfl rfl rfl, fun l hl => ?_⟩
  obtain ⟨hmax, hedge, hsealed, hrecords, -⟩ := hs.2 l hl
  show _ ∧ _ ≤ extentCount (extentBytes s.extentSize) l ∧ _
  have hbefore (k : Nat) (hk : winGet { c with window := winSet c r.index .sealed } k = .sealed) :
      k < extentCount (extentBytes s.extentSize) l := by
    obtain heq | hsame := sealed_before_seal hk
    · rw [heq]
      exact hrecords _ hmem
    · exact lt_of_winGet_sealed hsealed hsame
  refine ⟨hmax, ?_, fun p hp => ?_, fun x hx => ?_, fun hdone => ?_⟩
  · by_contra hgt
    have hlt : c.edge ≤ extentCount (extentBytes s.extentSize) l := hedge
    have := hbefore _ (winGet_of_passed { c with window := winSet c r.index .sealed } hlt (Nat.not_le.1 hgt))
    omega
  · refine hbefore _ ?_
    rw [← winGet_sealedContext (extentBytes s.extentSize) c r (Nat.le_add_right ..)]
    exact (winGet_add _ p).trans hp
  · have hwt : tabWf (sealedState s slot checked r c).extents = true := tabWf_tabSet hw.extents ..
    obtain ⟨hx, hxi⟩ := (mem_recordsOf hwt).1 hx
    rw [tabGet_sealedState] at hx
    split at hx
    · rw [← Option.some.inj hx]
      exact hrecords _ hmem
    · exact hrecords x ((mem_recordsOf hw.extents).2 ⟨hx, hxi⟩)
  · rw [show c.state = .done from hdone] at hrun
    cases hrun

/-! ## Opening -/

theorem streamTrue_opens {s : State} (hl : Ledger s) {i : Nat} {d : Context} (hi : ctxOf s i = none)
    (hfresh : FreshContext s d) : StreamTrue (setCtx s i d) i d := by
  have hnone : recordsOf s i = [] := recordsOf_eq_nil hl hi
  have hstate : StateTrue (setCtx s i d) i d := by
    unfold StateTrue
    obtain ⟨hst, hlength⟩ | ⟨hst, l, -, hlength⟩ := hfresh.state
    · rw [hst]
      exact ⟨hlength, hfresh.cause⟩
    · rw [hst]
      exact ⟨by rw [hlength]; rfl, hfresh.cause⟩
  refine ⟨hstate, fun l hl' => ?_⟩
  obtain ⟨-, hlength⟩ | ⟨hst, m, hm, hlength⟩ := hfresh.state
  · rw [hlength] at hl'
    cases hl'
  · rw [hlength] at hl'
    cases hl'
    refine ⟨hm, by rw [hfresh.edge]; exact Nat.zero_le _, fun p hp => ?_, fun x hx => ?_, fun hdone => ?_⟩
    · rw [hfresh.window] at hp
      simp at hp
    · rw [show recordsOf (setCtx s i d) i = [] from hnone] at hx
      cases hx
    · rw [hst] at hdone
      cases hdone

/-! ## Every move and every step -/

/-- `StreamsTrue` with the contexts read by number. -/
def StreamsHold (s : State) : Prop := ∀ i c, ctxOf s i = some c → StreamTrue s i c

theorem streamsTrue_iff {s : State} (hw : TablesWf s) : StreamsTrue s ↔ StreamsHold s :=
  ⟨fun h i c hc => h (i, c) (mem_of_tabGet hc), fun h y hy => h y.1 y.2 (tabGet_of_mem hw.contexts hy)⟩

theorem Move.streamsHold {s t : State} (hmove : Move s t) (hl : Ledger s) (hlive : UnsealedLive s) (hs : StreamsHold s) :
    StreamsHold t := by
  have hwt := hmove.tablesWf hl.tables
  have hw := hl.tables
  have hback {u : State} {j : Nat} {e : Context} (hu : TablesWf u) (he : ctxOf s j = some e)
      (hsize : u.extentSize = s.extentSize) (hkept : RecordsKept s u j e) : StreamTrue u j e :=
    hkept.streamTrue hw hu hsize (hs j e he)
  cases hmove with
  | same h =>
    intro j e he
    refine hback hwt (by rwa [ctxOf, ← h.contexts]) h.extentSize (recordsKept_of_iff fun n r _ => ?_)
    rw [h.extents]
  | @context i c d hc _ _ hstream =>
    intro j e he
    rw [ctxOf_setCtx] at he
    split at he
    · cases he
      exact ‹j = i› ▸ hstream hlive (hs i c hc)
    · exact hs j e he
  | @record slot r q hr hkept =>
    intro j e he
    refine hback hwt he rfl (recordsKept_tabSet hr (fun n => tabGet_tabSet ..) hkept.stream fun _ => ?_)
    exact ⟨hkept.stream, hkept.index, hkept.state.elim .inl fun h => .inr (.inl h.1)⟩
  | @create i k c v hc hallowed =>
    intro j e he
    cases hfree : s.freeSlots with
    | nil =>
      have heq : createExtent s i k v = s := by rw [createExtent, hfree]
      rw [heq] at he ⊢
      exact hs j e he
    | cons slot rest =>
      obtain ⟨hunbound, hext, hctx⟩ := createExtent_tables (k := k) hl hc hfree v
      rw [hctx] at he
      split at he
      · cases he
        exact ‹j = i› ▸ streamTrue_createExtent hl hc hallowed hfree v (hs i c hc)
      · refine hback hwt he (heldWork_createExtent ..).extentSize (recordsKept_of_iff fun n r hri => ?_)
        rw [hext]
        split
        · rw [‹n = slot›, hunbound]
          refine ⟨fun h => ?_, nofun⟩
          cases h
          exact absurd hri.symm ‹¬ j = i›
        · rfl
  | @seals slot r c checked hr hc hun =>
    intro j e he
    rw [ctxOf_sealedState] at he
    split at he
    · cases he
      exact ‹j = r.stream› ▸ streamTrue_sealedState hw hr hun checked (hs _ c hc)
    · refine hback hwt he rfl (recordsKept_tabSet hr (tabGet_sealedState s slot checked r c) rfl fun h => ?_)
      exact absurd h.symm ‹_›
  | @drop t i c d rs h _ hstream =>
    intro j e he
    rw [h.ctxOf] at he
    split at he
    · cases he
      exact ‹j = i› ▸ hstream (hs i c h.context)
    · refine hback hwt he h.extentSize (recordsKept_of_iff fun n r hrj => ?_)
      rw [h.tabGet_extents]
      split
      · refine ⟨nofun, fun hr => ?_⟩
        obtain ⟨y, hy, hyn⟩ := List.mem_map.1 ‹n ∈ rs.map (·.1)›
        obtain ⟨hyr, hyi⟩ := h.records y hy
        rw [hyn, hr] at hyr
        cases hyr
        exact absurd (hrj.symm.trans hyi) ‹¬ j = i›
      · rfl
  | @handOut q h rest hq =>
    intro j e he
    refine hback hwt he rfl ?_
    cases hr : tabGet s.extents h.slot with
    | none =>
      refine recordsKept_of_iff fun n r _ => ?_
      rw [show (Machine.handOut s q h rest).extents = s.extents by simp [Machine.handOut, claimExtent, hr]]
    | some r =>
      refine recordsKept_tabSet (r := { r with state := .claimed }) hr (fun n => ?_) rfl fun _ => ⟨rfl, rfl, ?_⟩
      · rw [show (Machine.handOut s q h rest).extents = tabSet s.extents h.slot { r with state := .claimed } by
          simp [Machine.handOut, claimExtent, hr]]
        exact tabGet_tabSet ..
      · exact .inr (.inr (.inl rfl))
  | @requeue h r c hj hst =>
    obtain ⟨-, hr, hc⟩ := judgeHandle_eq_ok hj
    intro j e he
    refine hback hwt he rfl (recordsKept_tabSet hr (fun n => tabGet_tabSet ..) rfl fun hstream => ⟨rfl, rfl, ?_⟩)
    refine .inr (.inr (.inr ⟨?_, rfl⟩))
    have hce : c = e := Option.some.inj (hc.symm.trans (hstream ▸ he))
    exact hce ▸ hst
  | @opens i d _ hi _ hfresh =>
    intro j e he
    rw [ctxOf_setCtx] at he
    split at he
    · cases he
      obtain rfl := ‹j = i›
      exact streamTrue_opens hl hi hfresh
    · exact hs j e he
  | @close i c =>
    intro j e he
    rw [ctxOf, tabGet_tabErase] at he
    split at he
    · cases he
    · exact hs j e he
  | configure z low hctx =>
    intro j e he
    rw [ctxOf, configuredPool, hctx] at he
    cases he
  | clear h =>
    intro j e he
    rw [ctxOf, h.contexts] at he
    cases he

/-- Settles O56: the streams stay true at every move, where the ledger and the LIVE positions of unsealed records are kept. -/
theorem streamStatesStayTrue : Obligations.StreamStatesStayTrue := by
  unfold Obligations.StreamStatesStayTrue
  intro s t hpool hwindows hstreams hstep
  have hl := (poolTrue_iff_ledger s).1 hpool
  obtain ⟨hl', -, hs'⟩ := kept_step hstep (P := fun u => Ledger u ∧ UnsealedLive u ∧ StreamsHold u) hl.tables
    (fun u v _ ⟨hlu, hlive, hsu⟩ hmove => ⟨hmove.ledger hlu, hmove.unsealedLive hlu hlive, hmove.streamsHold hlu hlive hsu⟩)
    ⟨hl, ((windowsTrue_iff hl.tables).1 hwindows).live, (streamsTrue_iff hl.tables).1 hstreams⟩
  exact (streamsTrue_iff hl'.tables).2 hs'

end Sys2Proof.Machine
end

section
/-! PROOFS. Counters, services, settings, timers, check values, port queues and memory stay in their ranges (O59); every row
answers a next state (O2). -/
namespace Sys2Proof.Machine

/-! ## What a move does to the values of a context -/

/-- Context `d` of a state reached by a move from `s` keeps the values of a context of `s`, or was just opened. -/
def ContextFrom (s : State) (i : Nat) (d : Context) : Prop :=
  (∃ c, ctxOf s i = some c ∧ ValuesKept c d) ∨ FreshContext s d

theorem contextFrom_self {s : State} {i : Nat} {d : Context} (h : ctxOf s i = some d) : ContextFrom s i d :=
  .inl ⟨d, h, .refl d⟩

theorem valuesKept_sealedContext (e : Nat) (c : Context) (r : Extent) : ValuesKept c (sealedContext e c r) := by
  refine ⟨⟨rfl, rfl⟩, id, fun h => ?_, fun h => ⟨⟨Nat.mod_lt _ (by decide), Nat.mod_lt _ (by decide)⟩, h.2⟩⟩
  cases hrun : c.state.running with
  | true =>
    have hrestart := timerTrue_startTimer h.1 h.2.1 hrun
    unfold TimerTrue at hrestart ⊢
    simpa [sealedContext, hrun, startTimer] using hrestart
  | false =>
    unfold TimerTrue at h ⊢
    simpa [sealedContext, hrun] using h

theorem Move.contextFrom {s t : State} (hmove : Move s t) {i : Nat} {d : Context} (hd : ctxOf t i = some d) :
    ContextFrom s i d := by
  have hset {j : Nat} {c e : Context} (he : (if i = j then some e else ctxOf s i) = some d) (hc : ctxOf s j = some c)
      (hkept : ValuesKept c e) : ContextFrom s i d := by
    split at he
    · cases he
      exact .inl ⟨c, ‹i = j› ▸ hc, hkept⟩
    · exact contextFrom_self he
  cases hmove with
  | same h => exact contextFrom_self (by rwa [ctxOf, ← h.contexts])
  | context hc _ hvalues =>
    rw [ctxOf_setCtx] at hd
    exact hset hd hc hvalues
  | record => exact contextFrom_self hd
  | @create j k c v hc =>
    obtain heq | ⟨slot, rest, -, heq⟩ := createExtent_cases hc v (k := k)
    · rw [heq] at hd
      exact contextFrom_self hd
    · rw [heq, ctxOf, tabGet_tabSet] at hd
      exact hset hd hc ⟨⟨rfl, rfl⟩, id, id, id⟩
  | seals _ _ hc =>
    rw [ctxOf_sealedState] at hd
    exact hset hd hc (valuesKept_sealedContext ..)
  | drop h hvalues =>
    rw [h.ctxOf] at hd
    exact hset hd h.context hvalues
  | handOut => exact contextFrom_self hd
  | requeue => exact contextFrom_self hd
  | opens _ _ _ hfresh =>
    rw [ctxOf_setCtx] at hd
    split at hd
    · cases hd
      exact .inr hfresh
    · exact contextFrom_self hd
  | close =>
    rw [ctxOf, tabGet_tabErase] at hd
    split at hd
    · cases hd
    · exact contextFrom_self hd
  | configure => exact contextFrom_self hd
  | clear h =>
    rw [ctxOf, h.contexts] at hd
    cases hd

/-! ## What a move does to the values of a record -/

/-- The retries and the store attempts of a record are in range (R64, R111, R152). -/
def CountsInRange (r : Extent) : Prop := r.retries ≤ 7 ∧ r.storeAttempts ≤ 6

/-- Record `q` of a state reached by a move from `s` keeps its values in their ranges. -/
structure RecordFrom (s : State) (n : Nat) (q : Extent) : Prop where
  counts : SettingsInRange s → CountsInRange q
  reduced : (∀ r, tabGet s.extents n = some r → RecReduced r) → RecReduced q

theorem recordFrom_of_bound {s : State} {n : Nat} {r q : Extent} (hr : tabGet s.extents n = some r)
    (hcounts : q.retries = r.retries ∧ q.storeAttempts = r.storeAttempts) (hreduced : RecReduced r → RecReduced q) :
    RecordFrom s n q := by
  refine ⟨fun h => ?_, fun h => hreduced (h r hr)⟩
  rw [CountsInRange, hcounts.1, hcounts.2]
  exact h.2.2.2.2.2.2 (n, r) (mem_of_tabGet hr)

theorem recordFrom_self {s : State} {n : Nat} {r : Extent} (hr : tabGet s.extents n = some r) : RecordFrom s n r :=
  recordFrom_of_bound hr ⟨rfl, rfl⟩ id

theorem recordFrom_newExtent (s : State) (n i k : Nat) {v : Option Pcv} (hv : ∀ w ∈ v, Reduced w) :
    RecordFrom s n (newExtent i k v) :=
  ⟨fun _ => ⟨Nat.zero_le _, Nat.zero_le _⟩, fun _ => ⟨reduced_zero, hv⟩⟩

theorem Move.recordFrom {s t : State} (hmove : Move s t) {n : Nat} {q : Extent} (hq : tabGet t.extents n = some q) :
    RecordFrom s n q := by
  have hset {m : Nat} {p : Extent} (hp : (if n = m then some p else tabGet s.extents n) = some q)
      (hfrom : RecordFrom s m p) : RecordFrom s n q := by
    split at hp
    · cases hp
      exact ‹n = m› ▸ hfrom
    · exact recordFrom_self hp
  cases hmove with
  | same h => exact recordFrom_self (h.extents ▸ hq)
  | context => exact recordFrom_self hq
  | record hr hkept =>
    rw [setExtent_extents, tabGet_tabSet] at hq
    exact hset hq ⟨hkept.settings, fun h => hkept.reduced (h _ hr)⟩
  | @create j k c v hc _ hv =>
    obtain heq | ⟨slot, rest, -, heq⟩ := createExtent_cases hc v (k := k)
    · rw [heq] at hq
      exact recordFrom_self hq
    · rw [heq, tabGet_tabSet] at hq
      exact hset hq (recordFrom_newExtent s slot j k hv)
  | seals _ hr =>
    rw [tabGet_sealedState] at hq
    exact hset hq (recordFrom_of_bound hr ⟨rfl, rfl⟩ id)
  | drop h => exact recordFrom_self (h.remains hq).1
  | handOut =>
    rw [Machine.handOut, tabGet_claimExtent] at hq
    split at hq
    · obtain ⟨r, hr, rfl⟩ := Option.map_eq_some_iff.1 hq
      exact recordFrom_of_bound hr ⟨rfl, rfl⟩ id
    · exact recordFrom_self hq
  | @requeue h r c hj _ hlimit =>
    obtain ⟨-, hr, -⟩ := judgeHandle_eq_ok hj
    rw [requeueExtent, tabGet_tabSet] at hq
    refine hset hq ⟨fun hs => ?_, fun hs => hs r hr⟩
    obtain ⟨-, -, ⟨-, hmax⟩, -, -, -, hrecords⟩ := hs
    exact ⟨(hrecords (h.slot, r) (mem_of_tabGet hr)).1, by dsimp only; omega⟩
  | opens => exact recordFrom_self hq
  | close => exact recordFrom_self hq
  | configure => exact recordFrom_self hq
  | clear h =>
    rw [h.extents] at hq
    cases hq

/-! ## The registers beside the held work -/

theorem Move.globalsKept {s t : State} (hmove : Move s t) : GlobalsKept s t := by
  cases hmove with
  | same h => exact h.globals
  | context => exact (heldWork_setCtx ..).globalsKept
  | record => exact (heldWork_setExtent ..).globalsKept
  | create => exact (heldWork_createExtent ..).globalsKept
  | seals => exact ⟨id, id, id, id, id, id⟩
  | drop h => exact h.frame.globalsKept
  | handOut => exact ⟨id, id, id, id, id, id⟩
  | requeue => exact ⟨id, id, id, id, id, id⟩
  | opens => exact (heldWork_setCtx ..).globalsKept
  | close => exact ⟨id, id, id, id, id, id⟩
  | configure z low _ _ hlow => exact ⟨id, id, fun h => ⟨hlow, h.2⟩, id, id, id⟩
  | clear _ hglobals => exact hglobals

/-! ## Each range under a move -/

theorem Move.countersTrue {s t : State} (hmove : Move s t) (hw : TablesWf s) (hs : CountersTrue s) : CountersTrue t := by
  refine ⟨fun y hy => ?_, hmove.globalsKept.links hs.2⟩
  obtain ⟨c, hc, hkept⟩ | hfresh := hmove.contextFrom (tabGet_of_mem (hmove.tablesWf hw).contexts hy)
  · exact hkept.counters (hs.1 _ (mem_of_tabGet hc))
  · rw [hfresh.counters]
    exact streamCountersTrue_zero

theorem Move.settingsInRange {s t : State} (hmove : Move s t) (hw : TablesWf s) (hs : SettingsInRange s) :
    SettingsInRange t := by
  have hwt := hmove.tablesWf hw
  obtain ⟨h1, h2, h3, h4, h5⟩ := hmove.globalsKept.settings ⟨hs.1, hs.2.1, hs.2.2.1, hs.2.2.2.1, hs.2.2.2.2.1⟩
  refine ⟨h1, h2, h3, h4, h5, fun y hy => ?_, fun x hx => ?_⟩
  · obtain ⟨c, hc, hkept⟩ | hfresh := hmove.contextFrom (tabGet_of_mem hwt.contexts hy)
    · rw [hkept.settings.1, hkept.settings.2]
      obtain ⟨-, -, -, -, -, hcontexts, -⟩ := hs
      exact hcontexts _ (mem_of_tabGet hc)
    · exact hfresh.settings
  · exact (hmove.recordFrom (tabGet_of_mem hwt.extents hx)).counts hs

theorem Move.timersTrue {s t : State} (hmove : Move s t) (hw : TablesWf s) (hs : TimersTrue s) : TimersTrue t := by
  obtain ⟨ha, hb⟩ := hmove.globalsKept.defaults ⟨hs.1, hs.2.1⟩
  refine ⟨ha, hb, fun y hy => ?_⟩
  obtain ⟨c, hc, hkept⟩ | hfresh := hmove.contextFrom (tabGet_of_mem (hmove.tablesWf hw).contexts hy)
  · exact hkept.timer (hs.2.2 _ (mem_of_tabGet hc))
  · exact hfresh.timer hs

theorem Move.pcvsReduced {s t : State} (hmove : Move s t) (hw : TablesWf s) (hs : PcvsReduced s) : PcvsReduced t := by
  have hwt := hmove.tablesWf hw
  refine ⟨fun x hx => ?_, fun y hy => ?_⟩
  · exact (hmove.recordFrom (tabGet_of_mem hwt.extents hx)).reduced fun r hr => hs.1 _ (mem_of_tabGet hr)
  · obtain ⟨c, hc, hkept⟩ | hfresh := hmove.contextFrom (tabGet_of_mem hwt.contexts hy)
    · exact hkept.reduced (hs.2 _ (mem_of_tabGet hc))
    · exact hfresh.reduced

/-- Settles O59: each range is kept by every move, and every step is a chain of moves. -/
theorem registersStayInRange : Obligations.RegistersStayInRange := by
  unfold Obligations.RegistersStayInRange
  intro s t hcanonical hstep
  have hw := hcanonical.tablesWf
  refine ⟨kept_step hstep hw fun u v hu h hmove => hmove.countersTrue hu h,
    kept_step hstep hw fun u v _ h hmove => hmove.globalsKept.services h,
    kept_step hstep hw fun u v hu h hmove => hmove.settingsInRange hu h,
    kept_step hstep hw fun u v hu h hmove => hmove.timersTrue hu h,
    kept_step hstep hw fun u v hu h hmove => hmove.pcvsReduced hu h,
    kept_step hstep hw fun u v _ h hmove => hmove.globalsKept.queues h,
    kept_step hstep hw (P := fun u => memWf u.mem = true) fun u v _ h hmove => hmove.globalsKept.mem h⟩

/-! ## Every row answers a next state -/

/-- The slot of a target comes from the free-slot list or from the record of its extent. -/
theorem targetSlot_cases {free : List Nat} {ps : List (Piece × Place)}
    (hroom : (ps.filter (fun x => needsRecord x.2)).length ≤ free.length) :
    ∀ t ∈ targetsOf free ps, t.slot ∈ free ∨ ∃ rs, (t.piece, .live t.slot rs) ∈ ps := by
  induction ps generalizing free with
  | nil => exact fun _ h => by cases h
  | cons x ps ih =>
    obtain ⟨p, place⟩ := x
    intro t ht
    have hlater {free' : List Nat} (h : t.slot ∈ free' ∨ ∃ rs, (t.piece, .live t.slot rs) ∈ ps) (hsub : free' ⊆ free) :
        t.slot ∈ free ∨ ∃ rs, (t.piece, .live t.slot rs) ∈ (p, place) :: ps :=
      h.imp (fun hs => hsub hs) fun ⟨rs, hm⟩ => ⟨rs, .tail _ hm⟩
    cases place with
    | duplicate => exact hlater (ih (by simpa [needsRecord] using hroom) t ht) (List.Subset.refl _)
    | live slot rs =>
      have hrest := ih (free := free) (by simpa [needsRecord] using hroom)
      unfold targetsOf at ht
      split at ht
      · exact hlater (hrest t ht) (List.Subset.refl _)
      · rcases List.mem_cons.1 ht with rfl | ht
        · exact .inr ⟨rs, .head _⟩
        · exact hlater (hrest t ht) (List.Subset.refl _)
    | absent =>
      cases free with
      | nil => simp [needsRecord] at hroom
      | cons slot rest =>
        rcases List.mem_cons.1 ht with rfl | ht
        · exact .inl (.head _)
        · exact hlater (ih (by simpa [needsRecord] using hroom) t ht) (List.subset_cons_self ..)

theorem slot_lt_slotCount {s : State} (h : PoolAccounted s) {n : Nat}
    (hn : n ∈ s.freeSlots ∨ n ∈ s.extents.map (fun x => x.1)) : n < slotCount s.extentSize :=
  List.mem_range.1 (h.subset (List.mem_append.2 hn))

theorem unsealedRecord_slot_mem {s : State} {i k slot : Nat} {r : Extent} (h : unsealedRecord s i k = some (slot, r)) :
    slot ∈ s.extents.map (fun x => x.1) := by
  unfold unsealedRecord at h
  simp only [Option.bind_eq_some_iff, Option.map_eq_some_iff] at h
  obtain ⟨n, -, q, hget, heq⟩ := h
  cases heq
  exact List.mem_map.2 ⟨_, mem_of_tabGet hget, rfl⟩

/-- Every slot an admitted segment writes lies in the pool: the model's one fault does not occur (log 14). -/
theorem targetsInPool_of_poolAccounted {s : State} (h : PoolAccounted s) {i : Nat} {c : Context} {a : SegmentArrival}
    {ts : List Target} (hok : segmentAdmission s i c a = .ok ts) : targetsInPool s ts = true := by
  rw [targetsInPool, List.all_eq_true]
  intro t ht
  rw [decide_eq_true_eq]
  refine slot_lt_slotCount h ?_
  obtain ⟨-, -, rfl | ⟨hroom, rfl⟩⟩ := segmentAdmission_eq_ok hok
  · cases ht
  have hfew : ((placedPieces s i c a).filter (fun x => needsRecord x.2)).length ≤ s.freeSlots.length := by
    unfold segmentRoom at hroom
    split_ifs at hroom
    omega
  obtain hfree | ⟨rs, hlive⟩ := targetSlot_cases hfew t ht
  · exact .inl hfree
  · obtain ⟨p, -, heq⟩ := List.mem_map.1 hlive
    obtain ⟨rfl, hplace⟩ := Prod.mk.inj heq
    obtain ⟨r, hr, -⟩ := placeOf_eq_live hplace
    exact .inr (unsealedRecord_slot_mem hr)

theorem handleSegment_next {s : State} (h : PoolAccounted s) (a : SegmentArrival) : ∃ t, handleSegment s a = .next t := by
  unfold handleSegment
  dsimp only
  split
  · exact ⟨_, rfl⟩
  · split
    · exact ⟨_, rfl⟩
    · split
      · exact ⟨_, rfl⟩
      · rename_i ts hok
        rw [if_pos (targetsInPool_of_poolAccounted (s := countLink s a.link LinkCounters.arrival) h hok)]
        exact ⟨_, rfl⟩

theorem takeCommand_next (k : CommandKind) (body : List Word → State → Reply) (s : State) :
    ∃ t, takeCommand k body s = .next t := by
  obtain heq | ⟨c, rest, -, -, -, heq⟩ := takeCommand_cases k body s
  · exact ⟨_, heq⟩
  · exact ⟨_, heq⟩

theorem takeRequest_next (body : State → State × DrainAnswer) (s : State) : ∃ t, takeRequest s body = .next t := by
  obtain ⟨-, heq⟩ | ⟨-, heq⟩ := takeRequest_cases s body
  · exact ⟨_, heq⟩
  · exact ⟨_, heq⟩

theorem exec_next {s : State} (h : PoolAccounted s) (i : Instr) : ∃ t, exec i s = .next t := by
  cases i with
  | segment =>
    show ∃ t, execSegment s = .next t
    unfold execSegment
    split
    · rename_i a rest _ _
      exact handleSegment_next (s := { s with inputQueue := rest }) h a
    · exact ⟨_, rfl⟩
  | powerOn => exact ⟨_, rfl⟩
  | arrivalDelivery a => show ∃ t, execArrivalDelivery a s = .next t; unfold execArrivalDelivery; split <;> exact ⟨_, rfl⟩
  | check => show ∃ t, execCheck s = .next t; unfold execCheck; split <;> exact ⟨_, rfl⟩
  | trailer => show ∃ t, execTrailer s = .next t; unfold execTrailer; split <;> exact ⟨_, rfl⟩
  | unknownKind => show ∃ t, execUnknownKind s = .next t; unfold execUnknownKind; split <;> exact ⟨_, rfl⟩
  | dispositionAccept =>
    show ∃ t, execDispositionAccept s = .next t
    unfold execDispositionAccept
    split <;> exact ⟨_, rfl⟩
  | commandWrite c => show ∃ t, execCommandWrite c s = .next t; unfold execCommandWrite; split <;> exact ⟨_, rfl⟩
  | responseRead => show ∃ t, execResponseRead s = .next t; unfold execResponseRead; split <;> exact ⟨_, rfl⟩
  | portStatusRead => exact ⟨_, rfl⟩
  | openStream => exact takeCommand_next ..
  | closeStream => exact takeCommand_next ..
  | abortStream => exact takeCommand_next ..
  | abortGroup => exact takeCommand_next ..
  | queryStream => exact takeCommand_next ..
  | configurePool => exact takeCommand_next ..
  | supplyCheck => exact takeCommand_next ..
  | supplyObjectCheck => exact takeCommand_next ..
  | setStreamTimers => exact takeCommand_next ..
  | setGroupTimers => exact takeCommand_next ..
  | setTimerDefaults => exact takeCommand_next ..
  | setQueue => exact takeCommand_next ..
  | releaseHold => exact takeCommand_next ..
  | drainStatus => exact takeCommand_next ..
  | setStoreLimit => exact takeCommand_next ..
  | ackAttention => exact takeCommand_next ..
  | endAttention => exact takeCommand_next ..
  | setClass => exact takeCommand_next ..
  | setThreshold => exact takeCommand_next ..
  | fetchNotices => exact takeCommand_next ..
  | readStreamCounters => exact takeCommand_next ..
  | snapshot => exact takeCommand_next ..
  | readSnapshot => exact takeCommand_next ..
  | queryEngine => exact takeCommand_next ..
  | resetEngine => exact takeCommand_next ..
  | unknownCommand =>
    show ∃ t, execUnknownCommand s = .next t
    unfold execUnknownCommand
    split
    · exact ⟨_, rfl⟩
    · split <;> exact ⟨_, rfl⟩
  | readReady q count => exact takeRequest_next ..
  | chainRead count => exact takeRequest_next ..
  | readData h offset length => exact takeRequest_next ..
  | release h outcome => exact takeRequest_next ..
  | drainStatusRequest => exact takeRequest_next (fun s => (s, .summary (drainSummary s))) s
  | unknownRequest kind => exact takeRequest_next (fun s => (s, .status .unknownRequest)) s
  | drainAnswerAccept =>
    show ∃ t, execDrainAnswerAccept s = .next t
    unfold execDrainAnswerAccept
    split <;> exact ⟨_, rfl⟩
  | timerAdvance ctx => exact ⟨_, rfl⟩
  | gapExpiry ctx =>
    show ∃ t, execGapExpiry ctx s = .next t
    unfold execGapExpiry
    split
    · exact ⟨_, rfl⟩
    · split <;> exact ⟨_, rfl⟩
  | abandonExpiry ctx =>
    show ∃ t, execAbandonExpiry ctx s = .next t
    unfold execAbandonExpiry
    split
    · exact ⟨_, rfl⟩
    · split <;> exact ⟨_, rfl⟩
  | snapshotCompletion =>
    show ∃ t, execSnapshotCompletion s = .next t
    unfold execSnapshotCompletion
    split <;> exact ⟨_, rfl⟩

/-- Settles O2: the rows answer a next state, and each is a chain of moves that leaves the model's own queue alone. -/
theorem everyCommandCompletes : Obligations.EveryCommandCompletes := by
  unfold Obligations.EveryCommandCompletes
  intro c s hpool
  obtain ⟨t, ht⟩ := exec_next hpool c
  exact ⟨t, ht, (outcomeSteps_exec c s t ht).pending⟩

end Sys2Proof.Machine
end

section
/-! PROOFS. Fill ranges (O49), the first hole (O50) and check values (O51). -/
namespace Sys2Proof.Machine

/-! ## Insertion and trimming (R75 to R77) -/

theorem length_trimPiece_le (rs : List (Nat × Nat)) (a b : Nat) : (trimPiece rs a b).length ≤ rs.length + 1 := by
  induction rs generalizing a with
  | nil =>
    unfold trimPiece
    split <;> simp
  | cons g rs ih =>
    have hrest := ih (max a g.2)
    unfold trimPiece
    rw [List.length_append, List.length_cons]
    split
    · simp only [List.length_singleton]
      omega
    · simp only [List.length_nil]
      omega

/-- Settles O49, by what insertion and trimming cover. -/
theorem piecesTrimAndInsert : Obligations.PiecesTrimAndInsert := by
  unfold Obligations.PiecesTrimAndInsert
  refine ⟨fun rs a b hrs hab => ?_, fun rs a b hrs => ?_⟩
  · have hlength := length_insertRange hrs hab
    refine ⟨covers_insertRange hrs hab, rangesFrom_insertRange hrs (Nat.zero_le _) hab, ?_, hlength.symm⟩
    have htouch := touchCount_le_length rs a b
    show (insertRange rs a b).length + touchCount rs a b = rs.length + 1
    rw [hlength, countAfter]
    omega
  · refine ⟨fun p => ?_, rangesFrom_trimPiece hrs, length_trimPiece_le rs a b⟩
    rw [covers_trimPiece hrs, Bool.not_eq_true]

/-! ## The first hole (R18) -/

/-- The lowest position from `pos` on that ascending ranges do not cover. -/
theorem firstGap_spec {lo : Nat} {rs : List (Nat × Nat)} (hrs : rangesFrom lo rs = true) (pos : Nat) :
    pos ≤ firstGap rs pos ∧ (∀ y, pos ≤ y → y < firstGap rs pos → covers rs y = true) ∧
      covers rs (firstGap rs pos) = false := by
  induction rs generalizing lo pos with
  | nil => exact ⟨le_refl _, fun y hlo hhi => absurd hhi (Nat.not_lt.2 hlo), rfl⟩
  | cons g rs ih =>
    obtain ⟨s, e⟩ := g
    obtain ⟨⟨-, hse⟩, hrest⟩ := rangesFrom_cons.1 hrs
    unfold firstGap
    split
    · rename_i hs
      obtain ⟨hge, hbelow, hgap⟩ := ih hrest (max pos e)
      refine ⟨by omega, fun y hlo hhi => ?_, ?_⟩
      · rw [covers_cons_iff]
        by_cases hye : y < e
        · exact .inl ⟨by omega, hye⟩
        · exact .inr (hbelow y (by omega) hhi)
      · rw [covers_cons, hgap, Bool.or_false, decide_eq_false_iff_not]
        omega
    · rename_i hs
      refine ⟨le_refl _, fun y hlo hhi => absurd hhi (Nat.not_lt.2 hlo), ?_⟩
      rw [Bool.eq_false_iff]
      intro hcov
      rcases covers_cons_iff.1 hcov with h | h
      · omega
      · have := le_of_covers hrest h
        omega

/-- Offset `x` is the lowest one from `lo` on that the stream does not cover. -/
structure LowestHole (s : State) (i : Nat) (c : Context) (lo x : Nat) : Prop where
  le : lo ≤ x
  below : ∀ y, lo ≤ y → y < x → offsetCovered s i c y = true
  hole : offsetCovered s i c x = false

theorem LowestHole.extend {s : State} {i lo hi x : Nat} {c : Context} (h : LowestHole s i c hi x) (hle : lo ≤ hi)
    (hcovered : ∀ y, lo ≤ y → y < hi → offsetCovered s i c y = true) : LowestHole s i c lo x := by
  refine ⟨hle.trans h.le, fun y hlo hx => ?_, h.hole⟩
  by_cases hy : y < hi
  · exact hcovered y hlo hy
  · exact h.below y (Nat.not_lt.1 hy) hx

section
variable {s : State} {i : Nat} {c : Context} {e : Nat} (he : extentBytes s.extentSize = e)
include he

theorem offsetCovered_iff {y : Nat} : offsetCovered s i c y = true ↔
    y / e < c.edge ∨ winGet c (y / e) = .sealed ∨
      (winGet c (y / e) = .live ∧ ∃ z, unsealedRecord s i (y / e) = some z ∧ covers z.2.ranges (y % e) = true) := by
  simp only [offsetCovered, he, Bool.or_eq_true, decide_eq_true_eq, beq_iff_eq, Bool.and_eq_true, Option.any_eq_true,
    or_assoc]

/-- Position `p` of extent `k` at or above the edge. -/
theorem offsetCovered_position {k p : Nat} (hk : c.edge ≤ k) (hp : p < e) : offsetCovered s i c (k * e + p) = true ↔
    winGet c k = .sealed ∨
      (winGet c k = .live ∧ ∃ z, unsealedRecord s i k = some z ∧ covers z.2.ranges p = true) := by
  have hdiv : (k * e + p) / e = k := by
    rw [Nat.mul_comm, Nat.mul_add_div (by omega), Nat.div_eq_of_lt hp, Nat.add_zero]
  have hmod : (k * e + p) % e = p := by rw [Nat.mul_comm, Nat.mul_add_mod, Nat.mod_eq_of_lt hp]
  rw [offsetCovered_iff he, hdiv, hmod]
  exact or_iff_right (by omega)

/-- An extent without a record and not SEALED begins with a hole. -/
theorem lowestHole_start {k : Nat} (hk : c.edge ≤ k) (hnot : winGet c k ≠ .sealed)
    (hnone : winGet c k = .live → unsealedRecord s i k = none) : LowestHole s i c (k * e) (k * e) := by
  refine ⟨le_refl _, fun y hlo hhi => absurd hhi (Nat.not_lt.2 hlo), ?_⟩
  rw [Bool.eq_false_iff]
  intro hcov
  rw [show k * e = k * e + 0 from rfl, offsetCovered_position he hk (he ▸ extentBytes_pos _)] at hcov
  rcases hcov with h | ⟨h, z, hz, -⟩
  · exact hnot h
  · rw [hnone h] at hz
    cases hz

/-- Above an extent that is covered whole, the hole is the next one's. -/
theorem LowestHole.afterExtent {k x : Nat} (h : LowestHole s i c ((k + 1) * e) x)
    (hcovered : ∀ p < e, offsetCovered s i c (k * e + p) = true) : LowestHole s i c (k * e) x := by
  have hmul : (k + 1) * e = k * e + e := Nat.succ_mul ..
  refine h.extend (by omega) fun y hlo hhi => ?_
  rw [← Nat.add_sub_cancel' hlo]
  exact hcovered _ (by omega)

/-- From extent `k` on, `w` being the window positions from there, the hole is the lowest offset not covered. -/
theorem lowestHole_holeFrom (hranges : ∀ k z, unsealedRecord s i k = some z → rangesFrom 0 z.2.ranges = true)
    (w : List WinPos) {k : Nat} (hk : c.edge ≤ k) (hw : ∀ j, winGet c (k + j) = (w[j]?).getD .absent) :
    LowestHole s i c (k * e) (holeFrom s i e w k) := by
  induction w generalizing k with
  | nil =>
    have hk0 : winGet c k = .absent := hw 0
    exact lowestHole_start he hk (by rw [hk0]; exact nofun) (by rw [hk0]; exact nofun)
  | cons v w ih =>
    have hv : winGet c k = v := hw 0
    have hnext : LowestHole s i c ((k + 1) * e) (holeFrom s i e w (k + 1)) := by
      refine ih (by omega) fun j => ?_
      rw [Nat.add_assoc, Nat.add_comm 1 j]
      exact hw (j + 1)
    match v, hv with
    | .absent, hv => exact lowestHole_start he hk (by rw [hv]; exact nofun) (by rw [hv]; exact nofun)
    | .sealed, hv => exact hnext.afterExtent he fun p hp => (offsetCovered_position he hk hp).2 (.inl hv)
    | .live, hv =>
      unfold holeFrom
      split
      · exact lowestHole_start he hk (by rw [hv]; exact nofun) fun _ => ‹_›
      · rename_i slot r hr
        obtain ⟨-, hbelow, hgap⟩ := firstGap_spec (hranges k _ hr) 0
        have hcovered (p : Nat) (hp : p < e) (hlt : p < firstGap r.ranges 0) : offsetCovered s i c (k * e + p) = true :=
          (offsetCovered_position he hk hp).2 (.inr ⟨hv, _, hr, hbelow p (Nat.zero_le _) hlt⟩)
        split
        · rename_i hinside
          refine ⟨Nat.le_add_right .., fun y hlo hhi => ?_, ?_⟩
          · rw [← Nat.add_sub_cancel' hlo]
            exact hcovered _ (by omega) (by omega)
          · rw [Bool.eq_false_iff]
            intro hcov
            rcases (offsetCovered_position he hk hinside).1 hcov with h | ⟨-, z, hz, hzcov⟩
            · rw [hv] at h
              cases h
            · obtain rfl := Option.some.inj (hr.symm.trans hz)
              exact Bool.false_ne_true (hgap.symm.trans hzcov)
        · exact hnext.afterExtent he fun p hp => hcovered p hp (by omega)

end

/-! ## The highest end -/

theorem le_foldl_max {α : Type} (f : α → Nat) (l : List α) (b : Nat) :
    b ≤ l.foldl (fun m a => max m (f a)) b ∧ (∀ a ∈ l, f a ≤ l.foldl (fun m a => max m (f a)) b) ∧
      (l.foldl (fun m a => max m (f a)) b = b ∨ ∃ a ∈ l, l.foldl (fun m a => max m (f a)) b = f a) := by
  induction l generalizing b with
  | nil => exact ⟨le_refl _, nofun, .inl rfl⟩
  | cons a l ih =>
    obtain ⟨hb, hall, hfrom⟩ := ih (max b (f a))
    refine ⟨(le_max_left ..).trans hb, fun x hx => ?_, ?_⟩
    · rcases List.mem_cons.1 hx with rfl | hx
      · exact (le_max_right ..).trans hb
      · exact hall x hx
    · rw [List.foldl_cons]
      rcases hfrom with h | ⟨x, hx, h⟩
      · rcases max_choice b (f a) with hmax | hmax
        · exact .inl (h.trans hmax)
        · exact .inr ⟨a, .head _, h.trans hmax⟩
      · exact .inr ⟨x, .tail _ hx, h⟩

/-- The ends of the fill ranges of a stream's records. -/
def rangeEnds (s : State) (i : Nat) : List Nat :=
  (recordsOf s i).flatMap fun x => x.2.ranges.map fun r => x.2.index * extentBytes s.extentSize + r.2

theorem highestEnd_eq (s : State) (i : Nat) (c : Context) :
    highestEnd s i c = (rangeEnds s i).foldl max (c.edge * extentBytes s.extentSize) := by
  rw [highestEnd, rangeEnds, List.foldl_flatMap]
  simp only [List.foldl_map]

theorem highestEnd_spec (s : State) (i : Nat) (c : Context) :
    c.edge * extentBytes s.extentSize ≤ highestEnd s i c ∧
      (∀ z ∈ recordsOf s i, ∀ g ∈ z.2.ranges, z.2.index * extentBytes s.extentSize + g.2 ≤ highestEnd s i c) ∧
      (highestEnd s i c = c.edge * extentBytes s.extentSize ∨
        ∃ z ∈ recordsOf s i, ∃ g ∈ z.2.ranges, highestEnd s i c = z.2.index * extentBytes s.extentSize + g.2) := by
  obtain ⟨hbase, hall, hfrom⟩ := le_foldl_max id (rangeEnds s i) (c.edge * extentBytes s.extentSize)
  rw [highestEnd_eq]
  refine ⟨hbase, fun z hz g hg => ?_, hfrom.imp id ?_⟩
  · exact hall _ (List.mem_flatMap.2 ⟨z, hz, List.mem_map.2 ⟨g, hg, rfl⟩⟩)
  · rintro ⟨m, hm, heq⟩
    obtain ⟨z, hz, hm⟩ := List.mem_flatMap.1 hm
    obtain ⟨g, hg, rfl⟩ := List.mem_map.1 hm
    exact ⟨z, hz, g, hg, heq⟩

/-- Settles O50: the walk of the window ends at the lowest hole, which is compared with L or with the highest end. -/
theorem firstHoleIsLowestUncovered : Obligations.FirstHoleIsLowestUncovered := by
  unfold Obligations.FirstHoleIsLowestUncovered
  intro s i x hpool hranges _ hx
  have hw := hpool.tablesWf
  have hordered (k : Nat) (z : Nat × Extent) (hz : unsealedRecord s i k = some z) : rangesFrom 0 z.2.ranges = true := by
    obtain ⟨hget, hstream, -⟩ := unsealedRecord_eq_some hw.extents hz
    exact (hranges z (mem_of_tabGet hget) x (by rw [hstream]; exact hx)).1.1
  obtain ⟨hle, hbelow, hhole⟩ : LowestHole s i x (x.edge * extentBytes s.extentSize)
      (holeFrom s i (extentBytes s.extentSize) x.window.toList x.edge) := by
    refine lowestHole_holeFrom rfl hordered _ (le_refl _) fun j => ?_
    rw [winGet_eq_getElem?, if_pos (Nat.le_add_right ..), Nat.add_sub_cancel_left]
  obtain ⟨hbase, hends, hfrom⟩ := highestEnd_spec s i x
  refine ⟨fun l hl => ?_, fun hl => ⟨?_, fun p hp => ?_⟩, hends, hbase, hfrom⟩
  · refine ⟨min (holeFrom s i (extentBytes s.extentSize) x.window.toList x.edge) l, ?_, Nat.min_le_right ..,
      fun y hlo hhi => hbelow y hlo (by omega), fun hlt => ?_⟩
    · simp only [firstHole, hl]
    · rw [Nat.min_eq_left (by omega)]
      exact ⟨hle, hhole⟩
  · simp only [firstHole, hl]
    split
    · rename_i hlt
      simp only [reduceCtorEq, false_iff, not_forall]
      exact ⟨_, hle, hlt, by rw [hhole]; exact Bool.false_ne_true⟩
    · exact ⟨fun _ y hlo hhi => hbelow y hlo (by omega), fun _ => rfl⟩
  · simp only [firstHole, hl] at hp
    split at hp
    · cases hp
      exact ⟨hle, ‹_›, hhole, hbelow⟩
    · cases hp

/-! ## Check values (R87, R89, R91, R92) -/

/-- The accumulators `p` with the pair `q` added at the offset `w`: an accumulation and a fold are of this form. -/
def addAt (p : Pcv) (w : Nat) (q : Pcv) : Pcv :=
  { s := (p.s + q.s) % Config.modulus, t := (p.t + q.t + w * q.s) % Config.modulus }

theorem addAt_comm (p a b : Pcv) (j k : Nat) : addAt (addAt p j a) k b = addAt (addAt p k b) j a := by
  have hs : p.s + (a.s + b.s) = p.s + (b.s + a.s) := by omega
  have ht : p.t + (a.t + (j * a.s + (b.t + k * b.s))) = p.t + (b.t + (k * b.s + (a.t + j * a.s))) := by omega
  simp only [addAt, Nat.add_assoc, Nat.mod_add_mod, hs, ht]

theorem accumulate_pcvOf {before : List Byte} {j : Nat} (h : before.length = 4 * j) (bytes : List Byte) :
    accumulate (pcvOf before) j bytes = pcvOf (before ++ bytes) := by
  have hplain := byteSum_plain_shift j 0 bytes
  have hplace := byteSum_place_shift j 0 bytes
  rw [Nat.add_zero] at hplain hplace
  rw [accumulate, pcvOf_eq_byteSum, pcvOf_eq_byteSum, pcvOf_eq_byteSum]
  simp only [byteSum_append, Nat.zero_add, h, hplain, hplace]
  simp [Nat.add_mod, Nat.mul_mod, Nat.add_assoc]

/-- A fold of extent `k` is an accumulation at its object word offset (R91, R92). -/
theorem foldPcv_pcvOf {e : Nat} (he : 4 ∣ e) {k : Nat} {before : List Byte} (h : before.length = k * e)
    (extent : List Byte) : foldPcv (pcvOf before) e k (pcvOf extent) = pcvOf (before ++ extent) := by
  have hdvd : 4 * (k * e / 4) = k * e := Nat.mul_div_cancel' (Dvd.dvd.mul_left he k)
  rw [← accumulate_pcvOf (h.trans hdvd.symm), foldPcv_eq, accumulate]
  simp [Nat.add_mod, Nat.mul_mod]

theorem wordOffset_eq {e k : Nat} (h : k * e ≤ 2 ^ 44) : wordOffset e k = (k * e / 4) % Config.modulus := by
  have hlt : wordOffset e k < Config.modulus := by
    unfold wordOffset Config.modulus
    dsimp only
    split <;> omega
  rw [← Nat.mod_eq_of_lt hlt]
  exact wordOffset_modEq e k

/-- Settles O51, by the sums of the bytes of a string. -/
theorem checkValuesAddUp : Obligations.CheckValuesAddUp := by
  unfold Obligations.CheckValuesAddUp
  refine ⟨⟨fun before bytes j h => accumulate_pcvOf h bytes, fun bytes j => ?_, fun p j k a b => addAt_comm ..⟩,
    fun sz k => wordOffset_eq, fun sz k before extent _ h => foldPcv_pcvOf (four_dvd_extentBytes sz) h extent,
    fun acc p q e j k => addAt_comm ..⟩
  rw [← accumulate_pcvOf (List.length_replicate ..), pcvOf_zeros]

end Sys2Proof.Machine
end


section
/-! PROOFS. The ports' handshakes, the commands that read or set one item, and the state at power-on (O1, O3, O4, O14, O20,
O27, O28, O30, O34, O36, O52). -/
namespace Sys2Proof.Machine

/-! ## The row of a command (R188, R189, R196) -/

/-- The rule that a command of each kind follows once it is taken. -/
def commandBody : CommandKind → List Word → State → Reply
  | .openStream => openStream
  | .closeStream => closeStream
  | .abortStream => abortStream
  | .abortGroup => abortGroup
  | .queryStream => queryStream
  | .supplyCheck => supplyCheck
  | .supplyObjectCheck => supplyObjectCheck
  | .configurePool => configurePool
  | .setStreamTimers => setStreamTimers
  | .setGroupTimers => setGroupTimers
  | .setTimerDefaults => setTimerDefaults
  | .setQueue => setQueue
  | .releaseHold => releaseHold
  | .drainStatus => drainStatus
  | .setStoreLimit => setStoreLimit
  | .ackAttention => ackAttention
  | .endAttention => endAttention
  | .setClass => setClass
  | .setThreshold => setThreshold
  | .fetchNotices => fetchNotices
  | .readStreamCounters => readStreamCounters
  | .snapshot => snapshotCommand
  | .readSnapshot => readSnapshot
  | .queryEngine => queryEngine
  | .resetEngine => resetEngine

theorem exec_rowOf (k : CommandKind) (s : State) : exec (rowOf k) s = takeCommand k (commandBody k) s := by
  cases k <;> rfl

section
variable {k : CommandKind} {s : State} {c : CommandRecord} (hc : Taken k s c)
include hc

theorem exec_rowOf_refused {st : Status}
    (h : commandBody k c.args { s with commands := s.commands.tail } = refuse { s with commands := s.commands.tail } st) :
    exec (rowOf k) s = .next (answer s c st []) := by
  rw [exec_rowOf, takeCommand_of_taken hc, h, placeResponse_refuse]

theorem exec_rowOf_accepted {t : State} {l : List Word}
    (h : commandBody k c.args { s with commands := s.commands.tail } = accept { t with commands := t.commands.tail } l) :
    exec (rowOf k) s = .next (answer t c .ok l) := by
  rw [exec_rowOf, takeCommand_of_taken hc, h, placeResponse_accept rfl]

end

theorem takeCommand_waits {s : State} (h : s.commands = [] ∨ Config.responseCapacity ≤ s.responses.length)
    (k : CommandKind) (body : List Word → State → Reply) : takeCommand k body s = .next s := by
  rcases takeCommand_cases k body s with hstay | ⟨c, rest, hhead, -, hfree, -⟩
  · exact hstay
  · rcases h with hempty | hfull
    · rw [hempty] at hhead
      cases hhead
    · omega

theorem execUnknownCommand_of_empty {s : State} (h : s.commands = []) : execUnknownCommand s = .next s := by
  unfold execUnknownCommand
  rw [h]

/-- A command with too few argument words is refused before its rule is followed (R196). -/
theorem takeCommand_of_short {k : CommandKind} {s : State} {c : CommandRecord} (hhead : s.commands.head? = some c)
    (hkind : commandKind c.code = some k) (hfree : s.responses.length < Config.responseCapacity)
    (hshort : c.args.length < argWords k) (body : List Word → State → Reply) :
    takeCommand k body s = .next (answer s c .badArgument []) := by
  obtain ⟨rest, hrest⟩ := List.head?_eq_some_iff.1 hhead
  have htail : rest = s.commands.tail := by rw [hrest, List.tail_cons]
  unfold takeCommand
  rw [hrest]
  simp only
  rw [if_pos ⟨hkind, hfree⟩, runCommand, if_pos hshort, htail, placeResponse_refuse]

/-! ## The steps of the machine and power-on (log 1, R62) -/

/-- Settles O1, by the two cases of the queue. -/
theorem stepRunsFrontCommand : Obligations.StepRunsFrontCommand := by
  unfold Obligations.StepRunsFrontCommand
  refine ⟨fun c s rest h => ?_, fun s h => ?_⟩
  · rw [step, h]
  · rw [step, h]

/-- With every class masked the line is low (R171). -/
theorem attentionLine_of_masked {s : State} (h : ∀ d : Fin 8, s.masked[d] = true) : attentionLine s = false := by
  rw [attentionLine, List.any_eq_false]
  intro d _
  simp [classEligible, h d]

theorem classes_reset (d : Fin 8) :
    State.reset.priority[d] = d.val ∧ State.reset.masked[d] = true ∧ State.reset.inService[d] = false := by
  revert d
  decide

/-- Settles O3: every item is read off the state that POWER_ON writes. -/
theorem powerOnValues : Obligations.PowerOnValues := by
  unfold Obligations.PowerOnValues
  intro s
  refine ⟨{ State.reset with mem := s.mem, pending := s.pending }, rfl, fun _ => rfl, rfl, rfl, rfl, ?slots, fun _ => rfl,
    fun _ => rfl, rfl, rfl, rfl, rfl, rfl, rfl, ?queues, rfl, rfl, rfl, rfl, rfl, rfl, ?classes, rfl, ?line, ?links, rfl, rfl,
    rfl, rfl⟩
  case slots => simp only [State.reset]
  case queues => simp [State.reset, QueueParams.powerOn]
  case classes => exact classes_reset
  case line => exact attentionLine_of_masked fun d => (classes_reset d).2.1
  case links => simp [State.reset]

/-- Settles O52: right after power-on there is no stream, no record, no queue entry and no claim. -/
theorem powerOnMeetsInvariants : Obligations.PowerOnMeetsInvariants := by
  unfold Obligations.PowerOnMeetsInvariants
  have hnone {α : Type} {p : α → Prop} : ∀ x ∈ ([] : List α), p x := fun _ hx => absurd hx List.not_mem_nil
  have hready (q : Fin 4) : State.reset.ready[q] = [] := clearedWork_reset.ready q
  refine ⟨(poolTrue_iff_ledger _).2 (ledger_of_clear clearedWork_reset), ⟨fun q => ?_, fun q => ?_, hnone⟩,
    ⟨List.nodup_nil, Nat.zero_le _, hnone, hnone⟩, ⟨hnone, hnone, hnone, List.nodup_nil⟩, hnone, hnone, hnone,
    ⟨hnone, hnone⟩, ⟨by decide, by decide, hnone⟩, ⟨hnone, fun l => ?_⟩, fun d => ?_,
    ⟨Nat.zero_le _, Nat.zero_le _, Nat.zero_le _⟩,
    ⟨by decide, fun q => ?_, by decide, fun d => ?_, by decide, hnone, hnone⟩, rfl⟩
  · rw [hready]
    exact List.nodup_nil
  · rw [hready]
    exact hnone
  · exact linkCountersTrue_zero l
  · rw [(classes_reset d).2.2]
    nofun
  · simp [State.reset, QueueParams.powerOn]
  · rw [(classes_reset d).1]
    omega

/-! ## Bytes of the port records (sections 12.1, 12.2) -/

theorem leBytes_eq_map (n v : Nat) : leBytes n v = (List.range n).map fun k => BitVec.ofNat 8 (v / 256 ^ k) := by
  induction n generalizing v with
  | zero => rfl
  | succ n ih => simp [leBytes, ih, List.range_succ_eq_map, Function.comp_def, Nat.div_div_eq_div_mul, Nat.pow_succ']

theorem leBytes_zero (n : Nat) : leBytes n 0 = List.replicate n 0 := by
  induction n with
  | zero => rfl
  | succ n ih =>
    rw [leBytes, Nat.zero_div, ih]
    rfl

/-! ## The segment port (R28 to R30) -/

theorem exec_arrivalDelivery (a : Arrival) (s : State) : exec (.arrivalDelivery a) s = execArrivalDelivery a s := rfl

theorem stopAsserted_eq_true_iff (s : State) : stopAsserted s = true ↔ 32 ≤ s.inputQueue.length := by
  simp [stopAsserted, Config.inputCapacity]

theorem exec_arrivalDelivery_taken {s : State} (h : stopAsserted s = false) (a : Arrival) :
    exec (.arrivalDelivery a) s = .next { s with inputQueue := s.inputQueue ++ [a] } := by
  rw [exec_arrivalDelivery, execArrivalDelivery, h, if_neg Bool.false_ne_true]

theorem exec_arrivalDelivery_stopped {s : State} (h : stopAsserted s = true) (a : Arrival) :
    exec (.arrivalDelivery a) s = .next s := by
  rw [exec_arrivalDelivery, execArrivalDelivery, h, if_pos rfl]

/-- No arrival is taken while a disposition is held or the input queue is empty. -/
theorem exec_arrival_waits {s : State} (h : s.disposition ≠ none ∨ s.inputQueue = []) :
    exec .segment s = .next s ∧ exec .check s = .next s ∧ exec .trailer s = .next s ∧ exec .unknownKind s = .next s := by
  have hnone (a : Arrival) (rest : List Arrival) : ¬ AtHead s a rest := by
    rintro ⟨hqueue, hfree⟩
    rcases h with hheld | hempty
    · exact hheld hfree
    · rw [hempty] at hqueue
      cases hqueue
  show execSegment s = .next s ∧ execCheck s = .next s ∧ execTrailer s = .next s ∧ execUnknownKind s = .next s
  unfold execSegment execCheck execTrailer execUnknownKind
  refine ⟨?_, ?_, ?_, ?_⟩
  all_goals
    split
    · exact absurd ⟨‹_›, ‹_›⟩ (hnone _ _)
    · rfl

theorem exec_dispositionAccept_held {s : State} {d : Disposition} (h : s.disposition = some d) :
    exec .dispositionAccept s = .next { s with disposition := none, segmentOut := dispositionBytes d } := by
  show execDispositionAccept s = _
  rw [execDispositionAccept, h]

theorem exec_dispositionAccept_idle {s : State} (h : s.disposition = none) : exec .dispositionAccept s = .next s := by
  show execDispositionAccept s = _
  rw [execDispositionAccept, h]

/-- Settles O4: the handshakes case by case, and the record's fields byte by byte. -/
theorem segmentPortHandshakes : Obligations.SegmentPortHandshakes := by
  unfold Obligations.SegmentPortHandshakes
  refine ⟨⟨fun a s h => ?free, fun a s h => ?full, fun s d => exec_dispositionAccept_held,
    fun s => exec_dispositionAccept_idle⟩, fun s => exec_arrival_waits, fun d => ?bytes, rfl⟩
  case free =>
    have hfree : stopAsserted s = false := by
      rw [← Bool.not_eq_true, stopAsserted_eq_true_iff]
      omega
    exact ⟨hfree, exec_arrivalDelivery_taken hfree a⟩
  case full =>
    have hfull := (stopAsserted_eq_true_iff s).2 h
    exact ⟨hfull, exec_arrivalDelivery_stopped hfull a⟩
  case bytes =>
    obtain ⟨code, tag, newBytes, hole⟩ := d
    have hzero : leBytes 2 0 = [0, 0] := rfl
    rw [dispositionBytes, hzero]
    match hole with
    | some (.offset x) => simp [leBytes_eq_map, List.range, List.range.loop, holeBytes]
    | some .unknown => simp [leBytes_eq_map, List.range, List.range.loop, holeBytes]
    | none => simp [leBytes_eq_map, List.range, List.range.loop, holeBytes]

/-! ## The control port (R188 to R190, R196) -/

theorem exec_responseRead_empty {s : State} (h : s.responses = []) :
    exec .responseRead s = .next { s with controlOut := [0xFFFF, 0] } := by
  show execResponseRead s = _
  rw [execResponseRead, h]
  rfl

theorem exec_responseRead_head {s : State} {r : Response} {rest : List Response} (h : s.responses = r :: rest) :
    exec .responseRead s = .next { s with responses := rest, controlOut := responseWords r } := by
  show execResponseRead s = _
  rw [execResponseRead, h]

/-- A flag weighed by a power of two. -/
theorem two_mul_bitOf (b : Bool) : 2 * bitOf b = if b = true then 2 else 0 := mul_bitOf 2 b

/-- Settles O14: the two reads, the waiting of a command and its refusal for its word count. -/
theorem hostReadsAndWaitingCommands : Obligations.HostReadsAndWaitingCommands := by
  unfold Obligations.HostReadsAndWaitingCommands
  refine ⟨⟨fun s => exec_responseRead_empty, fun s r rest h => ?head, fun s => ?status⟩,
    ⟨fun k s h => ⟨?waits, ?unknown⟩, fun k s c hhead hkind hfree hshort => ?short⟩, rfl⟩
  case head =>
    rw [exec_responseRead_head h, responseWords, Nat.mul_comm 65536]
    rfl
  case status =>
    show execPortStatusRead s = _
    rw [execPortStatusRead, portStatusWords, two_mul_bitOf]
    rfl
  case waits => rw [exec_rowOf, takeCommand_waits h]
  case unknown =>
    rcases h with hempty | hfull
    · exact execUnknownCommand_of_empty hempty
    · exact exec_unknownCommand_waits hfull
  case short => rw [exec_rowOf, takeCommand_of_short hhead hkind hfree hshort]

/-! ## QUERY_STREAM (R19, section 12.3) -/

theorem exec_queryStream_unmapped {s : State} {c : CommandRecord} (hc : Taken .queryStream s c)
    (h : lookupTag s (argWord c.args 0) = none) : exec .queryStream s = .next (answer s c .unknownStream []) := by
  refine exec_rowOf_refused hc ?_
  rw [commandBody, queryStream, lookupTag_commands, h]

theorem exec_queryStream_mapped {s : State} {c : CommandRecord} (hc : Taken .queryStream s c) {i : Nat} {x : Context}
    (h : lookupTag s (argWord c.args 0) = some (i, x)) :
    exec .queryStream s = .next (answer s c .ok (contextWords x (firstHole s i x))) := by
  have hhole : firstHole { s with commands := s.commands.tail } i x = firstHole s i x := by apply firstHole_congr <;> rfl
  refine exec_rowOf_accepted hc ?_
  rw [commandBody, queryStream, lookupTag_commands, h]
  simp only [hhole]

theorem flagBits_two (a b : Bool) : flagBits [a, b] = (if a = true then 1 else 0) + (if b = true then 2 else 0) := by
  rw [flagBits, flagBits, flagBits, Nat.mul_zero, Nat.add_zero, two_mul_bitOf, bitOf]

theorem winCode_lt (p : WinPos) : winCode p < 4 := by cases p <;> decide

theorem winBits_lt (l : List WinPos) : winBits l < 4 ^ l.length := by
  induction l with
  | nil => exact Nat.one_pos
  | cons p l ih =>
    have hp := winCode_lt p
    rw [winBits, List.length_cons, Nat.pow_succ]
    omega

/-- A position is read back from the number that holds its run. -/
theorem winBits_digit {l : List WinPos} {n : Nat} (h : n < l.length) : winBits l / 4 ^ n % 4 = winCode l[n] := by
  induction l generalizing n with
  | nil => cases h
  | cons p l ih =>
    have hp := winCode_lt p
    cases n with
    | zero =>
      rw [winBits, List.getElem_cons_zero]
      omega
    | succ n =>
      rw [winBits, Nat.pow_succ', ← Nat.div_div_eq_div_mul, show (winCode p + 4 * winBits l) / 4 = winBits l by omega,
        List.getElem_cons_succ, ih]

/-- A word of sixteen positions, read from the window's position `m` on. -/
theorem windowWord_digit (w : Vector WinPos 64) {m n : Nat} (hm : m + 16 ≤ 64) (hn : n < 16) :
    (word (winBits ((w.toList.drop m).take 16))).toNat / 4 ^ n % 4 = winCode w[m + n] := by
  have hlength : ((w.toList.drop m).take 16).length = 16 := by simp; omega
  have hlt : winBits ((w.toList.drop m).take 16) < 2 ^ 32 := by
    have h := winBits_lt ((w.toList.drop m).take 16)
    rwa [hlength] at h
  rw [word, BitVec.toNat_ofNat, Nat.mod_eq_of_lt hlt, winBits_digit (by omega)]
  simp

theorem windowWords_digit (w : Vector WinPos 64) (p : Fin 64) :
    ((windowWords w).getD (p.val / 16) 0).toNat / 4 ^ (p.val % 16) % 4 = winCode w[p] := by
  have hword (j : Nat) (hj : j < 4) :
      (windowWords w).getD j 0 = word (winBits ((w.toList.drop (16 * j)).take 16)) := by
    match j, hj with
    | 0, _ => rfl
    | 1, _ => rfl
    | 2, _ => rfl
    | 3, _ => rfl
  rw [hword _ (by omega), windowWord_digit w (by omega) (Nat.mod_lt _ (by decide))]
  simp only [Nat.div_add_mod]
  rfl

/-- Settles O20: the answer's words in their order, and each form of section 12.3. -/
theorem queryStreamCopiesContext : Obligations.QueryStreamCopiesContext := by
  unfold Obligations.QueryStreamCopiesContext
  refine ⟨fun s c hc => ⟨exec_queryStream_unmapped hc, fun i x h => ?mapped⟩,
    ⟨fun _ => rfl, rfl, fun _ => rfl, rfl, fun _ => rfl, rfl, fun _ => rfl, rfl, fun _ => rfl, rfl, rfl⟩,
    fun n => ?flags, fun w => ⟨rfl, windowWords_digit w⟩, rfl, rfl, rfl, rfl⟩
  case mapped =>
    rw [exec_queryStream_mapped hc h, contextWords, flagBits_two]
    simp [noticeWords, noticeOf]
  case flags => simp [noticeFlags, flagBits_five]

/-! ## The settings (R132, R136, R175, R193) -/

theorem min_eq_if (a n : Nat) : min a n = if a < n then a else n := by
  split <;> omega

theorem fin_ofNat_of_eq_val {n m : Nat} [NeZero n] {q : Fin n} (h : m = q.val) : Fin.ofNat n m = q := by
  subst h
  exact Fin.ofNat_val_eq_self q

theorem setQueue_of_lt {args : List Word} {q : Fin 4} (hq : arg32 args 0 = q.val) (s : State) :
    setQueue args s =
      accept
        { s with
          params :=
            s.params.set q
              { weight := min 127 (arg8 args 1)
                member := argBool args 2
                watermark := clamp 1 4096 (arg16 args 3)
                mode := if argBool args 4 = true then .padded else .terminated } }
        [word (min 127 (arg8 args 1)), word (bitOf (argBool args 2)), word (clamp 1 4096 (arg16 args 3)),
          word (modeCode (if argBool args 4 = true then .padded else .terminated))] := by
  have hle : ¬ 3 < arg32 args 0 := by omega
  simp only [setQueue, if_neg hle, fin_ofNat_of_eq_val hq]

/-- Settles O27: each command's rule, its clamps written out as case distinctions. -/
theorem settingCommandsClamp : Obligations.SettingCommandsClamp := by
  unfold Obligations.SettingCommandsClamp
  refine ⟨fun s c hc => exec_rowOf_accepted hc rfl, fun s c hc => ?limit, fun s c hc => ?threshold, fun s c hc =>
    ⟨fun hq => ?badQueue, fun q hq => ?queue⟩⟩
  case limit =>
    refine exec_rowOf_accepted hc ?_
    rw [← clamp_one (by decide)]
    rfl
  case threshold =>
    refine exec_rowOf_accepted hc ?_
    rw [← min_eq_if]
    rfl
  case badQueue =>
    refine exec_rowOf_refused hc ?_
    rw [commandBody, setQueue, if_pos hq]
  case queue =>
    refine exec_rowOf_accepted hc ?_
    rw [commandBody, setQueue_of_lt hq, min_eq_if, clamp_one (by decide)]
    cases argBool c.args 4 <;> rfl

/-! ## The attention classes (R169, R171) -/

theorem anyNotice_eq_true_iff {α : Type} {s : State} {cls : Nat} {f : Notices → Option α}
    (hf : ∀ n, (noticeOf n cls).isSome = (f n).isSome) :
    anyNotice s cls = true ↔ ∃ y ∈ s.contexts, f y.2.notices ≠ none := by
  simp only [anyNotice, List.any_eq_true, hf, ← Option.isSome_iff_ne_none]

theorem atWatermark_eq_true_iff (s : State) (q : Fin 4) :
    atWatermark s q = true ↔ s.params[q].watermark ≤ s.ready[q].length := decide_eq_true_iff

theorem classPending_three_iff (s : State) :
    classPending s 3 = true ↔ ∃ q : Fin 4, s.params[q].watermark ≤ s.ready[q].length := by
  have hfour : classPending s 3 = (atWatermark s 0 || atWatermark s 1 || atWatermark s 2 || atWatermark s 3) := rfl
  simp only [hfour, Bool.or_eq_true, atWatermark_eq_true_iff, or_assoc, Fin.exists_fin_succ, Fin.exists_fin_zero, or_false]
  rfl

/-- Settles O28, class by class. -/
theorem attentionLineFollowsClasses : Obligations.AttentionLineFollowsClasses := by
  unfold Obligations.AttentionLineFollowsClasses
  intro s
  refine ⟨anyNotice_eq_true_iff fun n => by simp [noticeOf], anyNotice_eq_true_iff fun n => by simp [noticeOf],
    anyNotice_eq_true_iff fun n => by simp [noticeOf], classPending_three_iff s, ?pool,
    anyNotice_eq_true_iff fun n => by simp [noticeOf], Iff.rfl, anyNotice_eq_true_iff fun n => by simp [noticeOf],
    fun c => ?eligible, ?line⟩
  case pool => exact decide_eq_true_iff
  case eligible => simp [classEligible, mem_attentionClasses, and_assoc, or_iff_not_imp_left]
  case line => simp [attentionLine, mem_attentionClasses]

/-! ## Services and holds (R155, R173, R174) -/

theorem holdAfterEnd_eq (s : State) (d : Fin 8) :
    holdAfterEnd s d = if d = 0 then Vector.replicate 4 false else s.hold := rfl

theorem endAttention_of_lt {args : List Word} {d : Fin 8} (hd : arg8 args 0 = d.val) (s : State) :
    endAttention args s =
      if s.inService[d] = true then
        accept { s with inService := s.inService.set d false, hold := holdAfterEnd s d } []
      else refuse s .notInService := by
  have hle : ¬ 7 < arg8 args 0 := by omega
  simp only [endAttention, if_neg hle, fin_ofNat_of_eq_val hd]

theorem setClass_of_lt {args : List Word} {d : Fin 8} (hd : arg8 args 0 = d.val) (s : State) :
    setClass args s =
      if s.inService[d] = true then refuse s .busy
      else
        accept
          { s with priority := s.priority.set d (min 7 (arg8 args 1)), masked := s.masked.set d (argBool args 2) }
          [word (min 7 (arg8 args 1)), word (bitOf (argBool args 2))] := by
  have hle : ¬ 7 < arg8 args 0 := by omega
  simp only [setClass, if_neg hle, fin_ofNat_of_eq_val hd]

theorem releaseHold_of_lt {args : List Word} {q : Fin 4} (hq : arg32 args 0 = q.val) (s : State) :
    releaseHold args s = accept { s with hold := s.hold.set q false } [word (readyCount s q)] := by
  have hle : ¬ 3 < arg32 args 0 := by omega
  simp only [releaseHold, if_neg hle, fin_ofNat_of_eq_val hq]

/-- Settles O30: each command on a number out of range, and on one in range. -/
theorem serviceAndHoldCommands : Obligations.ServiceAndHoldCommands := by
  unfold Obligations.ServiceAndHoldCommands
  refine ⟨fun s c hc => ⟨fun hd => ?endBad, fun d hd => ⟨fun hin => ?endIdle, fun hin => ?endServed⟩⟩,
    fun s c hc => ⟨fun hd => ?setBad, fun d hd => ⟨fun hin => ?setBusy, fun hin => ?set⟩⟩,
    fun s c hc => ⟨fun hq => ?holdBad, fun q hq => ?hold⟩⟩
  case endBad =>
    refine exec_rowOf_refused hc ?_
    rw [commandBody, endAttention, if_pos hd]
  case endIdle =>
    refine exec_rowOf_refused hc ?_
    rw [commandBody, endAttention_of_lt hd, if_neg (by simp [hin])]
  case endServed =>
    refine exec_rowOf_accepted hc ?_
    rw [commandBody, endAttention_of_lt hd, if_pos hin, holdAfterEnd_eq]
  case setBad =>
    refine exec_rowOf_refused hc ?_
    rw [commandBody, setClass, if_pos hd]
  case setBusy =>
    refine exec_rowOf_refused hc ?_
    rw [commandBody, setClass_of_lt hd, if_pos hin]
  case set =>
    refine exec_rowOf_accepted hc ?_
    rw [commandBody, setClass_of_lt hd, if_neg (by simp [hin]), min_eq_if]
    rfl
  case holdBad =>
    refine exec_rowOf_refused hc ?_
    rw [commandBody, releaseHold, if_pos hq]
  case hold =>
    refine exec_rowOf_accepted hc ?_
    rw [commandBody, releaseHold_of_lt hq]
    rfl

/-! ## Summaries (R156, R192) -/

theorem flagBits_four (a b c d : Bool) :
    flagBits [a, b, c, d] = bitOf a + 2 * bitOf b + 4 * bitOf c + 8 * bitOf d := by
  simp only [flagBits]
  omega

theorem takeRequest_waits {s : State} (h : s.drainAnswer ≠ none) (body : State → State × DrainAnswer) :
    takeRequest s body = .next s := by
  rcases takeRequest_cases s body with ⟨-, hstay⟩ | ⟨hfree, -⟩
  · exact hstay
  · exact absurd hfree h

theorem exec_drainStatusRequest (s : State) :
    exec .drainStatusRequest s = takeRequest s fun s => (s, .summary (drainSummary s)) := rfl

theorem exec_unknownRequest (k : Byte) (s : State) :
    exec (.unknownRequest k) s = takeRequest s fun s => (s, .status .unknownRequest) := rfl

/-- Settles O34: the two commands and the request read the state and leave it. -/
theorem queriesReportState : Obligations.QueriesReportState := by
  unfold Obligations.QueriesReportState
  refine ⟨fun s c hc => exec_rowOf_accepted hc rfl, fun s c hc => ?command, fun s h =>
    (exec_drainStatusRequest s).trans (takeRequest_of_none h _)⟩
  case command =>
    refine exec_rowOf_accepted hc ?_
    rw [commandBody, drainStatus, summaryWords, drainSummary, flagBits_four]
    rfl

/-! ## The drain port (R133, section 12.2) -/

theorem exec_drainAnswerAccept_waiting {s : State} {a : DrainAnswer} (h : s.drainAnswer = some a) :
    exec .drainAnswerAccept s = .next { s with drainAnswer := none, drainOut := answerBytes a } := by
  show execDrainAnswerAccept s = _
  rw [execDrainAnswerAccept, h]

theorem exec_drainAnswerAccept_idle {s : State} (h : s.drainAnswer = none) : exec .drainAnswerAccept s = .next s := by
  show execDrainAnswerAccept s = _
  rw [execDrainAnswerAccept, h]

theorem descriptorFlags_eq (d : Descriptor) :
    descriptorFlags d =
      bitOf d.last + 2 * bitOf d.unchecked + 4 * bitOf d.retried + 8 * bitOf d.requeued + 16 * bitOf d.streamFailed := by
  simp only [descriptorFlags, flagBits]
  omega

/-- Settles O36: the handshakes case by case, and the bytes of each record. -/
theorem drainPortTakesOneRequest : Obligations.DrainPortTakesOneRequest := by
  unfold Obligations.DrainPortTakesOneRequest
  refine ⟨fun s h => ⟨fun _ _ => takeRequest_waits h _, fun _ => takeRequest_waits h _, fun _ _ _ => takeRequest_waits h _,
    fun _ _ => takeRequest_waits h _, (exec_drainStatusRequest s).trans (takeRequest_waits h _),
    fun k => (exec_unknownRequest k s).trans (takeRequest_waits h _)⟩,
    fun s k h => (exec_unknownRequest k s).trans (takeRequest_of_none h _), fun s a => exec_drainAnswerAccept_waiting, fun s => exec_drainAnswerAccept_idle,
    ⟨fun st => ?status, fun bytes => ?data, fun r0 r1 r2 r3 n b0 b1 b2 b3 => ?summary, fun _ => rfl, fun d => ?descriptor,
      ?filler, ?endRecord⟩, rfl⟩
  case status => simp [answerBytes, statusRecord, leBytes_eq_map, List.range, List.range.loop]
  case data => simp [answerBytes, statusRecord, leBytes_eq_map, List.range, List.range.loop]
  case summary => simp [answerBytes, flagBits_four, leBytes_eq_map, List.range, List.range.loop, bitOf]
  case descriptor => simp [readRecordBytes, descriptorFlags_eq, leBytes_eq_map, List.range, List.range.loop, bitOf]
  case filler => rw [readRecordBytes, leBytes_zero]; rfl
  case endRecord => rw [readRecordBytes, leBytes_zero]; rfl

end Sys2Proof.Machine
end


section
/-! PROOFS. The stall timers and the counter unit (spec/06 and 10): statements O25, O26, O33. -/
namespace Sys2Proof.Machine

/-! ## The timer commands (R130, R131) -/

theorem running_eq_true_iff (st : StreamState) : st.running = true ↔ st = .opened ∨ st = .ending := by
  cases st <;> simp [StreamState.running]

theorem running_eq_beq (st : StreamState) : st.running = (st == .opened || st == .ending) := by cases st <;> rfl

section
variable {s : State} {c : CommandRecord} (hc : Taken .setStreamTimers s c)
include hc

theorem exec_setStreamTimers_unmapped (h : lookupTag s (argWord c.args 0) = none) :
    exec .setStreamTimers s = .next (answer s c .unknownStream []) := by
  refine exec_rowOf_refused hc ?_
  rw [commandBody, setStreamTimers, lookupTag_commands, h]

variable {i : Nat} {x : Context} (h : lookupTag s (argWord c.args 0) = some (i, x))
include h

theorem exec_setStreamTimers_stopped (hst : x.state = .done ∨ x.state = .failed ∨ x.state = .withdrawing) :
    exec .setStreamTimers s = .next (answer s c .badState []) := by
  have hstop : ¬ x.state.running = true := by
    rcases hst with hst | hst | hst <;> simp [hst, StreamState.running]
  refine exec_rowOf_refused hc ?_
  rw [commandBody, setStreamTimers, lookupTag_commands, h]
  exact if_neg hstop

theorem exec_setStreamTimers_running (hst : x.state = .opened ∨ x.state = .ending) :
    exec .setStreamTimers s =
      .next
        (answer (setCtx s i (setTimers (arg16 c.args 1) (arg16 c.args 2) x)) c .ok
          [word (phaseCode (startPhase (arg16 c.args 1) (arg16 c.args 2)))]) := by
  refine exec_rowOf_accepted hc ?_
  rw [commandBody, setStreamTimers, lookupTag_commands, h]
  exact if_pos ((running_eq_true_iff _).2 hst)

end

/-- The timers of several streams, set and restarted at once. -/
theorem foldl_setTimers {s : State} (hw : tabWf s.contexts = true) (p : Context → Bool) (a b : Nat) :
    (streamsWhere s p).foldl (fun u i => modCtx u i (setTimers a b)) s =
      { s with contexts := s.contexts.map fun y => if p y.2 = true then (y.1, setTimers a b y.2) else y } := by
  have hsub : (s.contexts.filter fun y => p y.2).Sublist s.contexts := List.filter_sublist
  rw [streamsWhere, foldl_modCtx_eq_changedAt _ ((tabWf_nodup hw).sublist (hsub.map _)) hw,
    changedAt_of_subset hw hsub.subset]
  refine congrArg (fun t => { s with contexts := t }) (List.map_congr_left fun y hy => ?_)
  simp [hy]

theorem setGroupTimers_of_le {s : State} (hw : tabWf s.contexts = true) {args : List Word} (h : arg32 args 0 ≤ 15)
    {p : Context → Bool} (hp : p = fun x => x.group == arg32 args 0 && x.state.running) :
    setGroupTimers args s =
      accept
        { s with
          contexts :=
            s.contexts.map fun y => if p y.2 = true then (y.1, setTimers (arg16 args 1) (arg16 args 2) y.2) else y }
        [word (s.contexts.filter fun y => p y.2).length] := by
  rw [setGroupTimers, if_neg (by omega)]
  dsimp only
  rw [foldl_setTimers hw, streamsWhere, List.length_map, hp]

section
variable {s : State} {c : CommandRecord} (hc : Taken .setGroupTimers s c)
include hc

theorem exec_setGroupTimers_bad (h : 15 < arg32 c.args 0) :
    exec .setGroupTimers s = .next (answer s c .badArgument []) := by
  refine exec_rowOf_refused hc ?_
  rw [commandBody, setGroupTimers, if_pos h]

theorem exec_setGroupTimers_members (hw : tabWf s.contexts = true) (h : arg32 c.args 0 ≤ 15) {p : Context → Bool}
    (hp : p = fun x => x.group == arg32 c.args 0 && x.state.running) :
    exec .setGroupTimers s =
      .next
        (answer
          { s with
            contexts :=
              s.contexts.map fun y =>
                if p y.2 = true then (y.1, setTimers (arg16 c.args 1) (arg16 c.args 2) y.2) else y }
          c .ok [word (s.contexts.filter fun y => p y.2).length]) := by
  exact exec_rowOf_accepted hc (setGroupTimers_of_le (s := { s with commands := s.commands.tail }) hw h hp)

end

/-- Settles O25, from the two commands' rules. -/
theorem timerCommandsRestartTimers : Obligations.TimerCommandsRestartTimers := by
  unfold Obligations.TimerCommandsRestartTimers
  refine ⟨fun s c hc => ⟨exec_setStreamTimers_unmapped hc, fun i x h => ⟨exec_setStreamTimers_stopped hc h,
    exec_setStreamTimers_running hc h⟩⟩, fun s c hc htables => ⟨exec_setGroupTimers_bad hc, fun hg => ?_⟩⟩
  exact exec_setGroupTimers_members hc htables.1 hg (funext fun x => by rw [running_eq_beq])

/-! ## The advance and the expiries (R121, R125, R126) -/

theorem timerRuns_eq_true_iff (x : Context) :
    timerRuns x = true ↔ (x.state = .opened ∨ x.state = .ending) ∧ x.phase ≠ .off := by
  simp [timerRuns, running_eq_true_iff]

theorem gapDue_eq_true_iff (x : Context) :
    gapDue x = true ↔ (x.state = .opened ∨ x.state = .ending) ∧ x.phase = .gap ∧ x.count + 1 = x.compareA := by
  simp only [gapDue, Bool.and_eq_true, timerRuns_eq_true_iff, beq_iff_eq]
  exact ⟨fun ⟨⟨⟨hrun, _⟩, hgap⟩, hcount⟩ => ⟨hrun, hgap, hcount⟩, fun ⟨hrun, hgap, hcount⟩ =>
    ⟨⟨⟨hrun, by simp [hgap]⟩, hgap⟩, hcount⟩⟩

theorem abandonDue_eq_true_iff (x : Context) :
    abandonDue x = true ↔ (x.state = .opened ∨ x.state = .ending) ∧ x.phase = .abandon ∧ x.count + 1 = x.compareB := by
  simp only [abandonDue, Bool.and_eq_true, timerRuns_eq_true_iff, beq_iff_eq]
  exact ⟨fun ⟨⟨⟨hrun, _⟩, habandon⟩, hcount⟩ => ⟨hrun, habandon, hcount⟩, fun ⟨hrun, habandon, hcount⟩ =>
    ⟨⟨⟨hrun, by simp [habandon]⟩, habandon⟩, hcount⟩⟩

section
variable {s : State} {j : Fin 1024}

theorem exec_timerAdvance (s : State) (j : Fin 1024) : exec (.timerAdvance j) s = .next (advanceTimer s j.val) := rfl

theorem exec_timers_of_free (h : ctxOf s j.val = none) :
    exec (.timerAdvance j) s = .next s ∧ exec (.gapExpiry j) s = .next s ∧ exec (.abandonExpiry j) s = .next s := by
  rw [exec_timerAdvance]
  show _ ∧ execGapExpiry j s = _ ∧ execAbandonExpiry j s = _
  rw [advanceTimer, execGapExpiry, execAbandonExpiry, h]
  exact ⟨rfl, rfl, rfl⟩

variable {x : Context} (hx : ctxOf s j.val = some x)
include hx

theorem exec_timerAdvance_bound :
    exec (.timerAdvance j) s =
      .next
        (if gapDue x = true then gapExpire s j.val x
          else if abandonDue x = true then abandonExpire s j.val x
          else if timerRuns x = true then setCtx s j.val { x with count := x.count + 1 }
          else s) := by
  rw [exec_timerAdvance, advanceTimer, hx]

theorem exec_gapExpiry_bound :
    exec (.gapExpiry j) s = .next (if gapDue x = true then gapExpire s j.val x else s) := by
  show execGapExpiry j s = _
  rw [execGapExpiry, hx]
  exact (apply_ite ..).symm

theorem exec_abandonExpiry_bound :
    exec (.abandonExpiry j) s = .next (if abandonDue x = true then abandonExpire s j.val x else s) := by
  show execAbandonExpiry j s = _
  rw [execAbandonExpiry, hx]
  exact (apply_ite ..).symm

theorem exec_expiries_of_not_due (hgap : ¬ gapDue x = true) (habandon : ¬ abandonDue x = true) :
    exec (.timerAdvance j) s =
        .next (if timerRuns x = true then setCtx s j.val { x with count := x.count + 1 } else s) ∧
      exec (.gapExpiry j) s = .next s ∧ exec (.abandonExpiry j) s = .next s := by
  rw [exec_timerAdvance_bound hx, exec_gapExpiry_bound hx, exec_abandonExpiry_bound hx, if_neg hgap, if_neg habandon, if_neg hgap,
    if_neg habandon]
  exact ⟨rfl, rfl, rfl⟩

end

/-- The failure of a stream leaves of its records those that have sealed. -/
theorem sealed_of_mem_failStream {s : State} (hwc : tabWf s.contexts = true) (hw : tabWf s.extents = true) {i : Nat}
    {x : Context} (hx : ctxOf s i = some x) (hst : ¬ (x.state = .failed ∨ x.state = .withdrawing)) (cause : Cause)
    {y : Nat × Extent} (hy : y ∈ (failStream s i cause).extents) (hi : y.2.stream = i) :
    y.2.state = .ready ∨ y.2.state = .claimed := by
  obtain ⟨d, -, -, -, ht⟩ := failStream_step hwc hw hx hst cause
  rw [ht] at hy
  have hkept := (List.mem_filter.1 hy).2
  rw [← unsealed_eq_false_iff]
  simpa [hi] using hkept

/-- Settles O26: an expiry is due in one phase at one count, and otherwise the advance only counts. -/
theorem timerAdvanceAndExpiries : Obligations.TimerAdvanceAndExpiries := by
  unfold Obligations.TimerAdvanceAndExpiries
  intro s j hpool
  refine ⟨exec_timers_of_free, fun x hx => ⟨fun hstop => ?_, fun hrun => ⟨fun hphase hne => ?_, fun hphase hne => ?_,
    fun hphase heq => ?_, fun hphase heq => ?_⟩⟩⟩
  · have hruns : ¬ timerRuns x = true := by
      rw [timerRuns_eq_true_iff]
      tauto
    have hgap : ¬ gapDue x = true := by
      rw [gapDue, Bool.and_eq_true, Bool.and_eq_true]
      tauto
    have habandon : ¬ abandonDue x = true := by
      rw [abandonDue, Bool.and_eq_true, Bool.and_eq_true]
      tauto
    have hexec := exec_expiries_of_not_due hx hgap habandon
    rwa [if_neg hruns] at hexec
  · have hexec := exec_expiries_of_not_due hx (by simp [gapDue_eq_true_iff, hne]) (by simp [abandonDue_eq_true_iff, hphase])
    rwa [if_pos ((timerRuns_eq_true_iff x).2 ⟨hrun, by simp [hphase]⟩)] at hexec
  · have hexec := exec_expiries_of_not_due hx (by simp [gapDue_eq_true_iff, hphase]) (by simp [abandonDue_eq_true_iff, hne])
    rwa [if_pos ((timerRuns_eq_true_iff x).2 ⟨hrun, by simp [hphase]⟩)] at hexec
  · have hdue : gapDue x = true := (gapDue_eq_true_iff x).2 ⟨hrun, hphase, heq⟩
    refine ⟨(exec_abandonExpiry_bound hx).trans ?_, fun i hi => ?_⟩
    · rw [if_neg (by simp [abandonDue_eq_true_iff, hphase])]
    · rcases hi with rfl | rfl
      · rw [exec_timerAdvance_bound hx, if_pos hdue]
        rfl
      · rw [exec_gapExpiry_bound hx, if_pos hdue]
        rfl
  · have hgap : ¬ gapDue x = true := by simp [gapDue_eq_true_iff, hphase]
    have hdue : abandonDue x = true := (abandonDue_eq_true_iff x).2 ⟨hrun, hphase, heq⟩
    have hst : ¬ (x.state = .failed ∨ x.state = .withdrawing) := by rcases hrun with h | h <;> simp [h]
    have hx' : ctxOf (setCtx s j.val { x with count := x.compareB }) j.val = some { x with count := x.compareB } :=
      ctxOf_setCtx_same ..
    have hw : tabWf (setCtx s j.val { x with count := x.compareB }).extents = true := hpool.1.2.1
    have hexpire : abandonExpire s j.val x = failStream (setCtx s j.val { x with count := x.compareB }) j.val .stall := by
      rw [abandonExpire, heq]
    obtain ⟨d, hd, hfields, honly, hready, hclaims⟩ := failStream_fails hw hx' hst .stall
    refine ⟨(exec_gapExpiry_bound hx).trans ?_, _, d, ?_, ?_, hd, by rw [hfields], by rw [hfields],
      by rw [hfields], by rw [hfields], by rw [hfields], fun y hy => ?_, ?_, hready, hclaims, rfl⟩
    · rw [if_neg hgap]
    · rw [exec_timerAdvance_bound hx, if_neg hgap, if_pos hdue, hexpire]
    · rw [exec_abandonExpiry_bound hx, if_pos hdue, hexpire]
    · exact sealed_of_mem_failStream (tabWf_tabSet hpool.1.1 ..) hw hx' hst .stall hy
    · exact onlyStream_trans (onlyStream_setCtx ..) honly

/-! ## Snapshots (R184, R185) -/

theorem flagBits_append (l m : List Bool) : flagBits (l ++ m) = flagBits l + 2 ^ l.length * flagBits m := by
  induction l with
  | nil => simp [flagBits]
  | cons b l ih =>
    rw [List.cons_append, flagBits, flagBits, ih, List.length_cons, Nat.pow_succ']
    ring

/-- The states of a stream part the contexts. -/
theorem length_eq_sum_states (t : Table Context) :
    t.length =
      (t.filter fun y => y.2.state == .opened).length + (t.filter fun y => y.2.state == .ending).length
        + (t.filter fun y => y.2.state == .done).length + (t.filter fun y => y.2.state == .failed).length
        + (t.filter fun y => y.2.state == .withdrawing).length := by
  induction t with
  | nil => rfl
  | cons y t ih =>
    simp only [List.filter_cons, List.length_cons]
    cases y.2.state <;> simp <;> omega

theorem contexts_length_le {s : State} (h : TablesCanonical s) : s.contexts.length ≤ 1024 := by
  obtain ⟨hw, -, hlt, -⟩ := h
  have hsub : s.contexts.map (·.1) ⊆ List.range 1024 := by
    intro n hn
    obtain ⟨y, hy, rfl⟩ := List.mem_map.1 hn
    exact List.mem_range.2 (hlt y hy)
  simpa using (List.subperm_of_subset (tabWf_nodup hw) hsub).length_le

theorem exec_snapshot_idle {s : State} {c : CommandRecord} (hc : Taken .snapshot s c) (h : s.copy = none) :
    exec .snapshot s =
      .next
        (answer
          { s with
            links := if argBool c.args 0 = true then Vector.replicate 4 .zero else s.links
            unread := false
            copy := some (captureValues s) }
          c .ok []) := by
  refine exec_rowOf_accepted hc ?_
  rw [commandBody, snapshotCommand, h]
  rfl

theorem exec_snapshot_busy {s : State} {c : CommandRecord} (hc : Taken .snapshot s c) (h : s.copy ≠ none) :
    exec .snapshot s = .next (answer s c .busy []) := by
  obtain ⟨v, hv⟩ := Option.ne_none_iff_exists'.1 h
  refine exec_rowOf_refused hc ?_
  rw [commandBody, snapshotCommand, hv]

theorem exec_readSnapshot_idle {s : State} {c : CommandRecord} (hc : Taken .readSnapshot s c) (h : s.copy = none) :
    exec .readSnapshot s = .next (answer { s with unread := false } c .ok (snapshotWords s.area)) := by
  refine exec_rowOf_accepted hc ?_
  rw [commandBody, readSnapshot, h]

theorem exec_readSnapshot_busy {s : State} {c : CommandRecord} (hc : Taken .readSnapshot s c) (h : s.copy ≠ none) :
    exec .readSnapshot s = .next (answer s c .busy []) := by
  obtain ⟨v, hv⟩ := Option.ne_none_iff_exists'.1 h
  refine exec_rowOf_refused hc ?_
  rw [commandBody, readSnapshot, hv]

theorem captureValues_eq (s : State) :
    captureValues s =
      { links := s.links
        freeSlots := s.freeSlots.length
        ready := [s.ready[0].length, s.ready[1].length, s.ready[2].length, s.ready[3].length]
        claims := s.claims.length
        free := 1024 - s.contexts.length
        opened := (s.contexts.filter fun y => y.2.state == .opened).length
        ending := (s.contexts.filter fun y => y.2.state == .ending).length
        done := (s.contexts.filter fun y => y.2.state == .done).length
        failed := (s.contexts.filter fun y => y.2.state == .failed).length
        withdrawing := (s.contexts.filter fun y => y.2.state == .withdrawing).length } := by
  simp only [captureValues, streamsIn, streamsWhere, List.length_map]
  rfl

theorem linkFlags_bits (k : LinkCounters) :
    flagBits (linkFlags k) =
      (if k.arrivals.saturated = true then 1 else 0) + 2 * (if k.accepted.saturated = true then 1 else 0)
        + 4 * (if k.duplicate.saturated = true then 1 else 0) + 8 * (if k.refused.saturated = true then 1 else 0)
        + 16 * (if k.unknownStream.saturated = true then 1 else 0) := by
  rw [linkFlags, flagBits_five]
  simp

/-- Settles O33: the two commands by the copy state, and the completion. -/
theorem snapshotCapturesAndCompletes : Obligations.SnapshotCapturesAndCompletes := by
  unfold Obligations.SnapshotCapturesAndCompletes
  refine ⟨fun s c hc => ⟨exec_snapshot_busy hc, fun h => ⟨?captured, fun htables => ?sum⟩⟩,
    fun s c hc => ⟨exec_readSnapshot_busy hc, fun h => ?words⟩, fun s v h => ?completed, fun s h => ?idle⟩
  case captured => rw [exec_snapshot_idle hc h, captureValues_eq]
  case sum =>
    have hle := contexts_length_le htables
    have hsum := length_eq_sum_states s.contexts
    dsimp only
    omega
  case words =>
    have hfour (k₀ k₁ k₂ k₃ : LinkCounters) :
        flagBits (linkFlags k₀ ++ linkFlags k₁ ++ linkFlags k₂ ++ linkFlags k₃) =
          flagBits (linkFlags k₀) + 2 ^ 5 * flagBits (linkFlags k₁) + 2 ^ 10 * flagBits (linkFlags k₂)
            + 2 ^ 15 * flagBits (linkFlags k₃) := by
      simp only [flagBits_append]
      rfl
    rw [exec_readSnapshot_idle hc h, snapshotWords, hfour]
    simp [linkFlags_bits, linkWords, words2]
  case completed =>
    show execSnapshotCompletion s = _
    rw [execSnapshotCompletion, h]
  case idle =>
    show execSnapshotCompletion s = _
    rw [execSnapshotCompletion, h]

end Sys2Proof.Machine
end


section
/-! PROOFS. OPEN_STREAM and ABORT_GROUP (spec/01): statements O17 and O19. -/
namespace Sys2Proof.Machine

/-! ## The argument block of OPEN_STREAM (section 12.3) -/

theorem toNat_append_words (hi lo : Word) : (hi ++ lo : BitVec 64).toNat = lo.toNat + 2 ^ 32 * hi.toNat := by
  rw [BitVec.toNat_append, ← Nat.shiftLeft_add_eq_or_of_lt lo.isLt, Nat.shiftLeft_eq]
  omega

theorem toNat_extractLsb' (w : Word) (start len : Nat) :
    (w.extractLsb' start len).toNat = w.toNat / 2 ^ start % 2 ^ len := by
  rw [BitVec.extractLsb'_toNat, Nat.shiftRight_eq_div_pow]

theorem openArgs_seven (w0 w1 w2 w3 w4 w5 w6 : Word) (more : List Word) :
    openArgs (w0 :: w1 :: w2 :: w3 :: w4 :: w5 :: w6 :: more) =
      { tag := w0
        group := (w1.extractLsb' 0 8).toNat
        queue := (w1.extractLsb' 8 8).toNat
        extentCheck := w1.getLsbD 16
        objectCheck := w1.getLsbD 17
        length := if w1.getLsbD 20 = true then some (w3 ++ w2 : BitVec 64).toNat else none
        expected := if w1.getLsbD 21 = true then some (w4, w5) else none
        timers :=
          if w1.getLsbD 22 = true then some ((w6.extractLsb' 0 16).toNat, (w6.extractLsb' 16 16).toNat) else none
        retryLimit := if w1.getLsbD 23 = true then some (w1.extractLsb' 24 8).toNat else none } := by
  have hlimit : w1.toNat / 2 ^ 24 % 2 ^ 8 = w1.toNat / 16777216 := by
    have := w1.isLt
    omega
  have hcompare : w6.toNat / 2 ^ 16 % 2 ^ 16 = w6.toNat / 65536 := by
    have := w6.isLt
    omega
  simp only [toNat_extractLsb', toNat_append_words, hlimit, hcompare]
  simp [openArgs, argWord, arg32]

/-! ## The refusals of OPEN_STREAM (R6) -/

theorem openBad_eq_true_iff (a : OpenArgs) :
    openBad a = true ↔
      15 < a.group ∨ 3 < a.queue ∨ (∃ l, a.length = some l ∧ 2 ^ 44 < l) ∨
        ∃ u v, a.expected = some (u, v) ∧ (Config.modulus ≤ u.toNat ∨ Config.modulus ≤ v.toNat) := by
  rw [openBad, Bool.or_eq_true, Bool.or_eq_true, Bool.or_eq_true, decide_eq_true_iff, decide_eq_true_iff, or_assoc,
    or_assoc]
  refine or_congr_right (or_congr_right (or_congr ?_ ?_))
  · cases a.length with
    | none => simp
    | some l =>
      refine ⟨fun h => ⟨l, rfl, of_decide_eq_true h⟩, fun ⟨m, hm, hlt⟩ => ?_⟩
      cases hm
      exact decide_eq_true hlt
  · match a.expected with
    | none => simp
    | some (u, v) =>
      refine ⟨fun h => ⟨u, v, rfl, (pcvValid_eq_false_iff u v).1 (by simpa using h)⟩, fun ⟨u', v', hm, hbad⟩ => ?_⟩
      cases hm
      simpa using (pcvValid_eq_false_iff u v).2 hbad

theorem lookupTag_isSome_iff {s : State} (hs : TablesCanonical s) (tag : Word) :
    (lookupTag s tag).isSome = true ↔ ∃ y ∈ s.contexts, y.2.tag = tag := by
  rw [Option.isSome_iff_ne_none, ne_eq, lookupTag_eq_none_iff hs]
  push Not
  exact ⟨fun ⟨i, x, hx, htag⟩ => ⟨(i, x), mem_of_tabGet hx, htag⟩,
    fun ⟨y, hy, htag⟩ => ⟨y.1, y.2, tabGet_of_mem hs.1 hy, htag⟩⟩

theorem tabLowestFree_of_full {s : State} (h : ∀ i < 1024, (ctxOf s i).isSome = true) :
    tabLowestFree s.contexts Config.contextCount 0 = none := by
  cases hfree : tabLowestFree s.contexts Config.contextCount 0 with
  | none => rfl
  | some k =>
    obtain ⟨-, hlt, hnone, -⟩ := tabLowestFree_spec hfree
    have hk := h k (by simpa [Config.contextCount] using hlt)
    rw [ctxOf, hnone] at hk
    cases hk

theorem tabLowestFree_of_lowest {s : State} {i : Nat} (hi : i < 1024) (hfree : ctxOf s i = none)
    (hbelow : ∀ j < i, (ctxOf s j).isSome = true) : tabLowestFree s.contexts Config.contextCount 0 = some i := by
  cases hlow : tabLowestFree s.contexts Config.contextCount 0 with
  | none =>
    have h := tabLowestFree_none hlow i (Nat.zero_le _) (by simpa [Config.contextCount] using hi)
    rw [← ctxOf, hfree] at h
    cases h
  | some k =>
    obtain ⟨-, -, hnone, hrest⟩ := tabLowestFree_spec hlow
    rcases Nat.lt_trichotomy i k with hlt | heq | hgt
    · have h := hrest i (Nat.zero_le _) hlt
      rw [← ctxOf, hfree] at h
      cases h
    · rw [heq]
    · have h := hbelow k hgt
      rw [ctxOf, hnone] at h
      cases h

/-! ## The context that OPEN_STREAM sets up (R7, R8) -/

/-- A context just opened with L = 0 and nothing to compare, or an equal value. -/
def openedDone (c : Context) : Context :=
  { c with state := .done, length := some 0, phase := .off, notices := { c.notices with done := some 0 } }

/-- A context just opened with L = 0 whose object compare fails. -/
def openedFailed (c : Context) : Context :=
  { c with
    state := .failed
    cause := some .objectCheck
    length := some 0
    phase := .off
    notices := { c.notices with failed := some .objectCheck } }

/-- The context of a stream after its OPEN_STREAM, the DONE evaluation that L = 0 brings included. -/
def openedContext (s : State) (a : OpenArgs) : Context :=
  match a.length with
  | none => openContext s a
  | some l =>
    if 0 < l then { openContext s a with state := .ending, length := some l }
    else
      match (openContext s a).expected with
      | some v => if v = { s := 0, t := 0 } then openedDone (openContext s a) else openedFailed (openContext s a)
      | none =>
        if a.objectCheck = true then { openContext s a with state := .ending, length := some 0 }
        else openedDone (openContext s a)

/-- A stream without records fails within its context. -/
theorem failStream_of_no_records {s : State} {i : Nat} {x : Context} (hx : ctxOf s i = some x)
    (hst : ¬ (x.state = .failed ∨ x.state = .withdrawing)) (hnone : recordsOf s i = []) (cause : Cause) :
    failStream s i cause =
      setCtx s i
        { x with
          state := .failed, cause := some cause, phase := .off, notices := { x.notices with failed := some cause } } := by
  have hslots (c : Context) (p : ExtentState → Bool) : slotsOf (setCtx s i c) i p = [] := by
    have h : recordsOf (setCtx s i c) i = [] := hnone
    rw [slotsOf, h]
    rfl
  rw [failStream, hx]
  simp only [if_neg hst, hslots, freeExtents, List.foldl_nil, holdIfReady]
  rw [if_pos List.isEmpty_nil, modCtx_of_some (ctxOf_setCtx_same ..), setCtx_setCtx]

theorem extentCount_zero (e : Nat) : extentCount e 0 = 0 := by
  unfold extentCount
  rcases Nat.eq_zero_or_pos e with rfl | he
  · rfl
  · exact Nat.div_eq_of_lt (by omega)

theorem extentCount_pos {e l : Nat} (he : 0 < e) (hl : 0 < l) : 0 < extentCount e l :=
  Nat.div_pos (by omega) he

theorem openAt_eq {s : State} {i : Nat} (hnone : recordsOf s i = []) (a : OpenArgs) :
    openAt s i a = setCtx s i (openedContext s a) := by
  have hrecords (c : Context) : recordsOf (setCtx s i c) i = [] := hnone
  have hx (c : Context) : ctxOf (setCtx s i c) i = some c := ctxOf_setCtx_same ..
  rw [openAt, openedContext]
  cases hlength : a.length with
  | none => exact evalDone_of_opened (hx _) rfl
  | some l =>
    cases hv : (openContext s a).expected with
    | none =>
      rw [evalDone_of_no_value (x := openWithLength (openContext s a) (some l)) (hx _) rfl rfl hv]
      rcases Nat.eq_zero_or_pos l with rfl | hl
      · simp only [extentCount_zero, Nat.not_lt_zero, false_or, if_false, openWithLength]
        split
        · rw [if_pos ‹_›]
        · rw [if_neg ‹_›, enterDone_eq (hx _), setCtx_setCtx]
          rfl
      · rw [if_pos (.inl (extentCount_pos (extentBytes_pos _) hl))]
        dsimp only
        rw [if_pos hl]
        rfl
    | some v =>
      rw [evalDone_of_expected (c := openWithLength (openContext s a) (some l)) (hx _) rfl rfl hv]
      rcases Nat.eq_zero_or_pos l with rfl | hl
      · simp only [extentCount_zero, Nat.not_lt_zero, if_false]
        split
        · rw [if_pos (Eq.symm ‹_›), enterDone_eq (hx _), setCtx_setCtx]
          rfl
        · rw [if_neg (Ne.symm ‹_›), failStream_of_no_records (hx _) (by simp [openWithLength]) (hrecords _),
            setCtx_setCtx]
          rfl
      · refine (if_pos (extentCount_pos (extentBytes_pos _) hl)).trans ?_
        dsimp only
        rw [if_pos hl]
        rfl

theorem recordsOf_eq_nil_of_free {s : State} (hs : HeldCounted s) {i : Nat} (h : ctxOf s i = none) : recordsOf s i = [] := by
  rw [recordsOf, List.filter_eq_nil_iff]
  intro y hy hi
  have howned := hs.1 y hy
  rw [beq_iff_eq.1 hi, h] at howned
  cases howned

section
variable {s : State} {c : CommandRecord} (hc : Taken .openStream s c)
include hc

theorem exec_openStream_bad (h : openBad (openArgs c.args) = true) :
    exec .openStream s = .next (answer s c .badArgument []) := by
  refine exec_rowOf_refused hc ?_
  rw [commandBody, openStream, if_pos h]

variable (hok : ¬ openBad (openArgs c.args) = true)
include hok

theorem exec_openStream_mapped (h : (lookupTag s (openArgs c.args).tag).isSome = true) :
    exec .openStream s = .next (answer s c .tagInUse []) := by
  refine exec_rowOf_refused hc ?_
  rw [commandBody, openStream, if_neg hok, lookupTag_commands, if_pos h]

variable (hnew : ¬ (lookupTag s (openArgs c.args).tag).isSome = true)
include hnew

theorem exec_openStream_full (h : tabLowestFree s.contexts Config.contextCount 0 = none) :
    exec .openStream s = .next (answer s c .tableFull []) := by
  refine exec_rowOf_refused hc ?_
  rw [commandBody, openStream, if_neg hok, lookupTag_commands, if_neg hnew]
  dsimp only
  rw [h]

theorem exec_openStream_opened {i : Nat} (h : tabLowestFree s.contexts Config.contextCount 0 = some i)
    (hnone : recordsOf s i = []) :
    exec .openStream s =
      .next
        (answer (setCtx s i (openedContext s (openArgs c.args))) c .ok
          [word i, word (streamStateCode (openedContext s (openArgs c.args)).state)]) := by
  have hopen := openAt_eq (s := { s with commands := s.commands.tail }) hnone (openArgs c.args)
  refine exec_rowOf_accepted hc ?_
  rw [commandBody, openStream, if_neg hok, lookupTag_commands, if_neg hnew]
  dsimp only
  rw [h]
  dsimp only
  rw [hopen, ctxOf_setCtx_same]
  rfl

end

/-- Settles O17, from the argument block's reading, the refusals and `openAt_eq`. -/
theorem openStreamSetsUpContext : Obligations.OpenStreamSetsUpContext := by
  unfold Obligations.OpenStreamSetsUpContext
  refine ⟨fun s c hc hpool => ?_, openArgs_seven⟩
  obtain ⟨htables, -, hheld⟩ := hpool
  dsimp only
  rw [← openBad_eq_true_iff, ← lookupTag_isSome_iff htables]
  refine ⟨exec_openStream_bad hc, exec_openStream_mapped hc, fun hok hnew hfull => ?_,
    fun hok hnew i hi hfree hbelow => ?_⟩
  · exact exec_openStream_full hc hok hnew (tabLowestFree_of_full hfull)
  · exact exec_openStream_opened hc hok hnew (tabLowestFree_of_lowest hi hfree hbelow)
      (recordsOf_eq_nil_of_free hheld hfree)

/-! ## Several aborts in a row (R16) -/

/-- Whether `h` is the handle of a READY record in queue `q` that the abort of stream `i` withdraws. -/
def withdrawnHandle (s : State) (q : Fin 4) (i : Nat) (h : Handle) : Bool :=
  (ctxOf s i).any (fun x => x.queue == q) && (withdrawn s i).any (fun y => y.2.state == .ready && h == handleOf s y.1)

/-- State `t` is state `s` after the streams `l` have been aborted, one after the other. -/
structure AbortedStreams (s t : State) (l : List Nat) : Prop where
  bound : ∀ j x, ctxOf s j = some x → ∃ d, ctxOf t j = some d ∧ if j ∈ l then AbortedFrom s j x d else d = x
  free : ∀ j, ctxOf s j = none → ctxOf t j = none
  gens : ∀ n, genOf t n =
    if n ∈ l.flatMap (fun i => (withdrawn s i).map (fun y => y.1)) then genOf s n + 1 else genOf s n
  ready : ∀ q : Fin 4, t.ready[q] = s.ready[q].filter (fun h => !(l.any (fun i => withdrawnHandle s q i h)))
  extents : t.extents = s.extents.filter (fun y => !(l.contains y.2.stream && y.2.state != .claimed))
  freeSlots : t.freeSlots = s.freeSlots ++ l.flatMap (fun i => (withdrawn s i).map (fun y => y.1))
  frame : t = { s with
    contexts := t.contexts, extents := t.extents, freeSlots := t.freeSlots, gens := t.gens, ready := t.ready }

theorem abortedStreams_nil (s : State) : AbortedStreams s s [] where
  bound _ x hx := ⟨x, hx, rfl⟩
  free _ h := h
  gens _ := rfl
  ready _ := by simp
  extents := by simp
  freeSlots := by simp
  frame := rfl

/-- No slot is withdrawn from two streams. -/
theorem withdrawn_slots_disjoint {s : State} (hw : tabWf s.extents = true) {i j n : Nat}
    (hi : n ∈ (withdrawn s i).map (fun y => y.1)) (hj : n ∈ (withdrawn s j).map (fun y => y.1)) : i = j := by
  obtain ⟨y, hy, rfl⟩ := List.mem_map.1 hi
  obtain ⟨z, hz, hzy⟩ := List.mem_map.1 hj
  obtain ⟨hgety, hstreamy, -⟩ := (mem_withdrawn hw).1 hy
  obtain ⟨hgetz, hstreamz, -⟩ := (mem_withdrawn hw).1 hz
  rw [hzy, hgety] at hgetz
  rw [← hstreamy, ← hstreamz, Option.some.inj hgetz]

section
variable {s t : State} {l : List Nat} {i : Nat} (h : AbortedStreams s t l) (hi : i ∉ l)
include h hi

theorem AbortedStreams.recordsOf_other : recordsOf t i = recordsOf s i := by
  rw [recordsOf, recordsOf, h.extents, List.filter_filter]
  refine List.filter_congr fun y _ => ?_
  by_cases hy : y.2.stream = i
  · simp [hy, hi]
  · simp [hy]

theorem AbortedStreams.withdrawn_other : withdrawn t i = withdrawn s i := by
  rw [withdrawn, withdrawn, h.recordsOf_other hi]

theorem AbortedStreams.genOf_withdrawn (hw : tabWf s.extents = true) {n : Nat}
    (hn : n ∈ (withdrawn s i).map (fun y => y.1)) : genOf t n = genOf s n := by
  rw [h.gens, if_neg]
  intro hmem
  obtain ⟨j, hj, hnj⟩ := List.mem_flatMap.1 hmem
  exact hi (withdrawn_slots_disjoint hw hn hnj ▸ hj)

theorem AbortedStreams.withdrawnHandle_other (hw : tabWf s.extents = true) {x : Context} (hx : ctxOf s i = some x)
    (q : Fin 4) (g : Handle) :
    withdrawnHandle s q i g =
      (decide (q = x.queue) && (withdrawn t i).any (fun y => y.2.state == .ready && g == handleOf t y.1)) := by
  have hany : (withdrawn t i).any (fun y => y.2.state == .ready && g == handleOf t y.1) =
      (withdrawn s i).any (fun y => y.2.state == .ready && g == handleOf s y.1) := by
    rw [h.withdrawn_other hi, Bool.eq_iff_iff, List.any_eq_true, List.any_eq_true]
    refine exists_congr fun y => and_congr_right fun hy => ?_
    rw [handleOf, h.genOf_withdrawn hi hw (List.mem_map_of_mem hy)]
    rfl
  rw [withdrawnHandle, hx, hany, Option.any_some, beq_eq_decide]
  simp only [eq_comm]

/-- The abort of one more stream. -/
theorem AbortedStreams.abort (hw : tabWf s.extents = true) {x : Context} (hx : ctxOf s i = some x)
    (hheld : x.held = (recordsOf s i).length) : AbortedStreams s (abortStreamAt t i) (l ++ [i]) := by
  have hwt : tabWf t.extents = true := by
    rw [h.extents, tabWf_iff]
    exact ((tabWf_iff _).1 hw).sublist List.filter_sublist
  have hxt : ctxOf t i = some x := by
    obtain ⟨d, hd, heq⟩ := h.bound i x hx
    rw [if_neg hi] at heq
    rw [hd, heq]
  obtain ⟨d, hfreed⟩ := withdrawExtents_freedRecords hwt hxt
  have hstep := abortStreamAt_eq hwt hxt hfreed
  have hctx (j : Nat) : ctxOf (abortStreamAt t i) j = if j = i then some (abortedContext t i d) else ctxOf t j := by
    rw [hstep, ctxOf_setCtx, hfreed.contexts]
    split <;> rfl
  have hfrom : AbortedFrom s i x (abortedContext t i d) := by
    have habort := abortedFrom_abortedContext (by rw [h.recordsOf_other hi, hheld]) hfreed
    rwa [AbortedFrom, h.withdrawn_other hi, h.recordsOf_other hi] at habort
  refine ⟨fun j y hy => ?_, fun j hj => ?_, fun n => ?_, fun q => ?_, ?_, ?_, ?_⟩
  · rw [hctx]
    by_cases hji : j = i
    · subst hji
      cases hx.symm.trans hy
      exact ⟨_, if_pos rfl, by simpa using hfrom⟩
    · obtain ⟨e, he, hrest⟩ := h.bound j y hy
      exact ⟨e, by rw [if_neg hji, he], by simpa [hji] using hrest⟩
  · have hji : j ≠ i := fun heq => by rw [heq, hx] at hj; cases hj
    rw [hctx, if_neg hji, h.free j hj]
  · have hgen : genOf (abortStreamAt t i) n = genOf (withdrawExtents t i) n := by rw [hstep]; rfl
    have hmem : n ∈ (l ++ [i]).flatMap (fun i => (withdrawn s i).map (fun y => y.1)) ↔
        n ∈ l.flatMap (fun i => (withdrawn s i).map (fun y => y.1)) ∨ n ∈ (withdrawn s i).map (fun y => y.1) := by
      rw [List.flatMap_append, List.mem_append, List.flatMap_singleton]
    rw [hgen, hfreed.gens, h.withdrawn_other hi]
    by_cases hn : n ∈ (withdrawn s i).map (fun y => y.1)
    · rw [if_pos hn, if_pos (hmem.2 (.inr hn)), h.genOf_withdrawn hi hw hn]
    · rw [if_neg hn, h.gens]
      simp only [hmem, hn, or_false]
  · have hready : (abortStreamAt t i).ready[q] = (withdrawExtents t i).ready[q] := by rw [hstep]; rfl
    have hfilter (g : Handle) : (l ++ [i]).any (fun i => withdrawnHandle s q i g) =
        (l.any (fun i => withdrawnHandle s q i g) ||
          (decide (q = x.queue) && (withdrawn t i).any (fun y => y.2.state == .ready && g == handleOf t y.1))) := by
      rw [List.any_append, ← h.withdrawnHandle_other hi hw hx, List.any_cons, List.any_nil, Bool.or_false]
    rw [hready, hfreed.ready]
    simp only [hfilter, h.ready]
    split
    · rw [List.filter_filter]
      refine List.filter_congr fun g _ => ?_
      simp [‹q = x.queue›, Bool.and_comm]
    · simp [‹¬ q = x.queue›]
  · have hext : (abortStreamAt t i).extents = (withdrawExtents t i).extents := by rw [hstep]; rfl
    rw [hext, withdrawExtents_extents hwt hxt, h.extents, List.filter_filter]
    refine List.filter_congr fun y _ => ?_
    simp only [List.contains_append, List.contains_cons, List.contains_nil, Bool.or_false]
    cases l.contains y.2.stream <;> cases y.2.stream == i <;> simp
  · have hfree : (abortStreamAt t i).freeSlots = (withdrawExtents t i).freeSlots := by rw [hstep]; rfl
    rw [hfree, hfreed.freeSlots, h.freeSlots, h.withdrawn_other hi, List.flatMap_append, List.flatMap_singleton,
      List.append_assoc]
  · rw [hstep, hfreed.frame, h.frame]
    rfl

end

theorem abortedStreams_foldl {s : State} (hw : tabWf s.extents = true) (l : List Nat) (hnodup : l.Nodup)
    (hl : ∀ i ∈ l, ∃ x, ctxOf s i = some x ∧ x.held = (recordsOf s i).length) :
    AbortedStreams s (l.foldl abortStreamAt s) l := by
  induction l using List.reverseRecOn with
  | nil => exact abortedStreams_nil s
  | append_singleton l i ih =>
    obtain ⟨hnodupl, -, hdisj⟩ := List.nodup_append.1 hnodup
    obtain ⟨x, hx, hheld⟩ := hl i (by simp)
    have hi : i ∉ l := fun hmem => hdisj i hmem i (by simp) rfl
    rw [List.foldl_append]
    exact (ih hnodupl fun j hj => hl j (List.mem_append_left _ hj)).abort hi hw hx hheld

theorem foldl_abortStreamAt_commands (s : State) (cs : List CommandRecord) (l : List Nat) :
    l.foldl abortStreamAt { s with commands := cs } = { l.foldl abortStreamAt s with commands := cs } := by
  induction l generalizing s with
  | nil => rfl
  | cons i l ih => rw [List.foldl_cons, abortStreamAt_commands, ih, List.foldl_cons]

/-! ## ABORT_GROUP (R16) -/

section
variable {s : State} {c : CommandRecord} (hc : Taken .abortGroup s c)
include hc

theorem exec_abortGroup_bad (h : 15 < arg32 c.args 0) : exec .abortGroup s = .next (answer s c .badArgument []) := by
  refine exec_rowOf_refused hc ?_
  rw [commandBody, abortGroup, if_pos h]

theorem exec_abortGroup_members (h : arg32 c.args 0 ≤ 15) {l : List Nat}
    (hl : streamsWhere s (fun x => x.group == arg32 c.args 0 && x.state != .withdrawing) = l) {t : State}
    (ht : l.foldl abortStreamAt s = t) (hcommands : t.commands = s.commands) :
    exec .abortGroup s = .next (answer t c .ok [word l.length]) := by
  have hsame : streamsWhere { s with commands := s.commands.tail }
      (fun x => x.group == arg32 c.args 0 && x.state != .withdrawing) = l := hl
  refine exec_rowOf_accepted hc ?_
  rw [commandBody, abortGroup, if_neg (by omega)]
  simp only [hsame, foldl_abortStreamAt_commands, ht, hcommands]

end

/-- Settles O19: the members are aborted one after the other, each as `AbortedStreams.abort` has it. -/
theorem abortGroupAbortsMembers : Obligations.AbortGroupAbortsMembers := by
  unfold Obligations.AbortGroupAbortsMembers
  rintro s c hc ⟨htables, -, -, hheld⟩
  refine ⟨exec_abortGroup_bad hc, fun hg => ?_⟩
  obtain ⟨hwc, hwe, -, -⟩ := htables
  have haborted := abortedStreams_foldl hwe
    (streamsWhere s fun x => x.group == arg32 c.args 0 && x.state != .withdrawing)
    ((tabWf_nodup hwc).sublist (List.filter_sublist.map _)) fun i hi => by
      obtain ⟨y, hy, rfl⟩ := List.mem_map.1 hi
      have hmem := (List.mem_filter.1 hy).1
      exact ⟨y.2, tabGet_of_mem hwc hmem, hheld y hmem⟩
  have hframe := haborted.frame
  rw [haborted.extents, haborted.freeSlots] at hframe
  exact ⟨_, exec_abortGroup_members hc hg rfl rfl (by rw [haborted.frame]), haborted.bound, haborted.free, haborted.gens,
    haborted.ready, hframe⟩

end Sys2Proof.Machine
end


section
/-! PROOFS. The ports and the held work apart: what an operation on the held work does, it does whatever stands in the input
queue, the link counters, the disposition and the command queue. -/
namespace Sys2Proof.Machine

/-! ## The registers of the ports -/

/-- What a command or an arrival leaves at the ports before its effects on the held work. -/
structure Ports where
  inputQueue : List Arrival
  links : Vector LinkCounters 4
  disposition : Option Disposition
  commands : List CommandRecord

/-- The ports of a state. -/
def portsOf (s : State) : Ports :=
  { inputQueue := s.inputQueue, links := s.links, disposition := s.disposition, commands := s.commands }

/-- State `s` with other ports. -/
def withPorts (s : State) (p : Ports) : State :=
  { s with inputQueue := p.inputQueue, links := p.links, disposition := p.disposition, commands := p.commands }

@[simp] theorem withPorts_withPorts (s : State) (p q : Ports) : withPorts (withPorts s p) q = withPorts s q := rfl

@[simp] theorem withPorts_portsOf (s : State) : withPorts s (portsOf s) = s := rfl

/-- Work on the held work leaves the ports. -/
theorem HeldWork.portsOf_eq {s t : State} (h : HeldWork s t) : portsOf t = portsOf s := by
  rw [portsOf, h.inputQueue, h.links, h.disposition, h.commands]
  rfl

theorem HeldWork.withPorts_eq {s t : State} (h : HeldWork s t) : withPorts t (portsOf s) = t := by
  rw [← h.portsOf_eq, withPorts_portsOf]

/-! ## What is read of the held work -/

section
variable (s : State) (p : Ports)

@[simp] theorem ctxOf_withPorts (i : Nat) : ctxOf (withPorts s p) i = ctxOf s i := rfl
@[simp] theorem extents_withPorts : (withPorts s p).extents = s.extents := rfl
@[simp] theorem freeSlots_withPorts : (withPorts s p).freeSlots = s.freeSlots := rfl
@[simp] theorem extentSize_withPorts : (withPorts s p).extentSize = s.extentSize := rfl
@[simp] theorem ready_withPorts : (withPorts s p).ready = s.ready := rfl
@[simp] theorem claims_withPorts : (withPorts s p).claims = s.claims := rfl
@[simp] theorem genOf_withPorts (n : Nat) : genOf (withPorts s p) n = genOf s n := rfl
@[simp] theorem lookupTag_withPorts (tag : Word) : lookupTag (withPorts s p) tag = lookupTag s tag := rfl
@[simp] theorem slotsOf_withPorts (i : Nat) (q : ExtentState → Bool) : slotsOf (withPorts s p) i q = slotsOf s i q := rfl
@[simp] theorem findUnsealed_withPorts (i k : Nat) : findUnsealed (withPorts s p) i k = findUnsealed s i k := rfl
@[simp] theorem complete_withPorts (c : Context) (r : Extent) : complete (withPorts s p) c r = complete s c r := rfl

theorem firstHoleOf_withPorts (i : Nat) : firstHoleOf (withPorts s p) i = firstHoleOf s i := by
  rw [firstHoleOf, firstHoleOf, ctxOf_withPorts]
  exact Option.map_congr fun c _ => by apply firstHole_congr <;> rfl

/-! ## The operations on the held work -/

@[simp] theorem setCtx_withPorts (i : Nat) (c : Context) : setCtx (withPorts s p) i c = withPorts (setCtx s i c) p := rfl

@[simp] theorem setExtent_withPorts (slot : Nat) (r : Extent) :
    setExtent (withPorts s p) slot r = withPorts (setExtent s slot r) p := rfl

@[simp] theorem modCtx_withPorts (i : Nat) (f : Context → Context) :
    modCtx (withPorts s p) i f = withPorts (modCtx s i f) p := by
  unfold modCtx
  rw [ctxOf_withPorts]
  cases ctxOf s i <;> rfl

@[simp] theorem restartTimer_withPorts (i : Nat) : restartTimer (withPorts s p) i = withPorts (restartTimer s i) p :=
  modCtx_withPorts ..

@[simp] theorem enterDone_withPorts (i n : Nat) : enterDone (withPorts s p) i n = withPorts (enterDone s i n) p :=
  modCtx_withPorts ..

@[simp] theorem createExtent_withPorts (i k : Nat) (v : Option Pcv) :
    createExtent (withPorts s p) i k v = withPorts (createExtent s i k v) p := by
  unfold createExtent
  rw [freeSlots_withPorts]
  cases s.freeSlots with
  | nil => rfl
  | cons slot rest => exact modCtx_withPorts (setExtent { s with freeSlots := rest } slot (newExtent i k v)) p i _

@[simp] theorem unlinkExtent_withPorts (slot : Nat) (r : Extent) :
    unlinkExtent (withPorts s p) slot r = withPorts (unlinkExtent s slot r) p := by
  unfold unlinkExtent
  cases r.state with
  | filling => exact modCtx_withPorts ..
  | awaitCheck => exact modCtx_withPorts ..
  | ready =>
    dsimp only
    rw [ctxOf_withPorts]
    cases ctxOf s r.stream <;> rfl
  | claimed => rfl

@[simp] theorem freeExtent_withPorts (slot : Nat) :
    freeExtent (withPorts s p) slot = withPorts (freeExtent s slot) p := by
  unfold freeExtent
  rw [extents_withPorts]
  cases tabGet s.extents slot with
  | none => rfl
  | some r =>
    simp only [unlinkExtent_withPorts, modCtx_withPorts]
    rfl

@[simp] theorem freeExtents_withPorts (slots : List Nat) :
    freeExtents (withPorts s p) slots = withPorts (freeExtents s slots) p := by
  unfold freeExtents
  induction slots generalizing s with
  | nil => rfl
  | cons slot slots ih => rw [List.foldl_cons, freeExtent_withPorts, ih, List.foldl_cons]

@[simp] theorem holdIfReady_withPorts (i : Nat) (q : Fin 4) :
    holdIfReady (withPorts s p) i q = withPorts (holdIfReady s i q) p := by
  rw [holdIfReady_eq, holdIfReady_eq, slotsOf_withPorts]
  rfl

@[simp] theorem failStream_withPorts (i : Nat) (cause : Cause) :
    failStream (withPorts s p) i cause = withPorts (failStream s i cause) p := by
  unfold failStream
  rw [ctxOf_withPorts]
  cases ctxOf s i with
  | none => rfl
  | some c =>
    dsimp only
    split
    · rfl
    · simp only [setCtx_withPorts, slotsOf_withPorts, freeExtents_withPorts, holdIfReady_withPorts, modCtx_withPorts]

@[simp] theorem evalDone_withPorts (i : Nat) : evalDone (withPorts s p) i = withPorts (evalDone s i) p := by
  unfold evalDone
  rw [ctxOf_withPorts]
  cases ctxOf s i with
  | none => rfl
  | some c =>
    simp only [extentSize_withPorts, enterDone_withPorts, failStream_withPorts]
    split
    · split
      · rfl
      · split
        · split <;> rfl
        · split <;> rfl
    · rfl

@[simp] theorem sealExtent_withPorts (slot : Nat) (checked : Bool) :
    sealExtent (withPorts s p) slot checked = withPorts (sealExtent s slot checked) p := by
  cases hr : tabGet s.extents slot with
  | none => rw [sealExtent, sealExtent, extents_withPorts, hr]
  | some r =>
    cases hc : ctxOf s r.stream with
    | none =>
      rw [sealExtent, sealExtent, extents_withPorts, hr]
      simp only [ctxOf_withPorts, hc]
    | some c =>
      rw [sealExtent_eq hr hc, sealExtent_eq (s := withPorts s p) hr hc]
      exact evalDone_withPorts (sealedState s slot checked r c) p r.stream

@[simp] theorem extentReset_withPorts (slot : Nat) :
    extentReset (withPorts s p) slot = withPorts (extentReset s slot) p := by
  unfold extentReset
  rw [extents_withPorts]
  cases tabGet s.extents slot with
  | none => rfl
  | some r => simp only [setExtent_withPorts, modCtx_withPorts]

@[simp] theorem compareExtent_withPorts (slot : Nat) :
    compareExtent (withPorts s p) slot = (withPorts (compareExtent s slot).1 p, (compareExtent s slot).2) := by
  unfold compareExtent
  rw [extents_withPorts]
  cases tabGet s.extents slot with
  | none => rfl
  | some r =>
    simp only [sealExtent_withPorts, ctxOf_withPorts, extentReset_withPorts, failStream_withPorts]
    split
    · rfl
    · cases ctxOf s r.stream with
      | none => rfl
      | some c =>
        dsimp only
        split <;> rfl

@[simp] theorem routeComplete_withPorts (slot : Nat) :
    routeComplete (withPorts s p) slot = withPorts (routeComplete s slot) p := by
  unfold routeComplete
  rw [extents_withPorts]
  cases tabGet s.extents slot with
  | none => rfl
  | some r =>
    simp only [ctxOf_withPorts, complete_withPorts, compareExtent_withPorts, setExtent_withPorts, sealExtent_withPorts]
    cases ctxOf s r.stream with
    | none => rfl
    | some c =>
      dsimp only
      split
      · split
        · rfl
        · split <;> rfl
      · rfl

@[simp] theorem routeLast_withPorts (i l : Nat) : routeLast (withPorts s p) i l = withPorts (routeLast s i l) p := by
  unfold routeLast
  simp only [extentSize_withPorts, findUnsealed_withPorts, routeComplete_withPorts]
  split
  · split <;> rfl
  · rfl

@[simp] theorem learnLength_withPorts (i l : Nat) :
    learnLength (withPorts s p) i l = withPorts (learnLength s i l) p := by
  unfold learnLength
  rw [ctxOf_withPorts]
  cases ctxOf s i with
  | none => rfl
  | some c =>
    simp only [setCtx_withPorts, routeLast_withPorts, evalDone_withPorts]
    split <;> rfl

@[simp] theorem storeCheck_withPorts (slot : Nat) (v : Pcv) :
    storeCheck (withPorts s p) slot v = (withPorts (storeCheck s slot v).1 p, (storeCheck s slot v).2) := by
  unfold storeCheck
  rw [extents_withPorts]
  cases tabGet s.extents slot with
  | none => rfl
  | some r =>
    simp only [setExtent_withPorts, compareExtent_withPorts]
    split <;> rfl

@[simp] theorem storeObjectCheck_withPorts (i : Nat) (v : Pcv) :
    storeObjectCheck (withPorts s p) i v = withPorts (storeObjectCheck s i v) p := by
  rw [storeObjectCheck, modCtx_withPorts, evalDone_withPorts]
  rfl

@[simp] theorem trailerStore_withPorts (i : Nat) (c : Context) (a : TrailerArrival) :
    trailerStore (withPorts s p) i c a = withPorts (trailerStore s i c a) p := by
  unfold trailerStore
  simp only [storeObjectCheck_withPorts]
  split
  · split <;> rfl
  · rfl

@[simp] theorem trailerEffects_withPorts (i : Nat) (c : Context) (a : TrailerArrival) :
    trailerEffects (withPorts s p) i c a = withPorts (trailerEffects s i c a) p := by
  unfold trailerEffects
  simp only [trailerStore_withPorts, learnLength_withPorts]
  rw [← apply_ite (withPorts · p), restartTimer_withPorts, ← apply_ite (withPorts · p)]

@[simp] theorem createTargets_withPorts (i : Nat) (ts : List Target) :
    createTargets (withPorts s p) i ts = withPorts (createTargets s i ts) p := by
  induction ts generalizing s with
  | nil => rfl
  | cons t ts ih =>
    rw [createTargets_cons, createTargets_cons, createExtent_withPorts, ← apply_ite (withPorts · p), ih]

@[simp] theorem writeTarget_withPorts (a : SegmentArrival) (t : Target) :
    writeTarget a (withPorts s p) t = withPorts (writeTarget a s t) p := by
  unfold writeTarget
  rw [extents_withPorts]
  cases tabGet s.extents t.slot <;> rfl

end

/-- An operation that minds no ports, repeated. -/
theorem foldl_withPorts {α : Type} {f : State → α → State} (hf : ∀ s p a, f (withPorts s p) a = withPorts (f s a) p)
    (l : List α) (s : State) (p : Ports) : l.foldl f (withPorts s p) = withPorts (l.foldl f s) p := by
  induction l generalizing s with
  | nil => rfl
  | cons a l ih => rw [List.foldl_cons, hf, ih, List.foldl_cons]

theorem segmentEffects_withPorts (s : State) (p : Ports) (i : Nat) (c : Context) (a : SegmentArrival) (ts : List Target) :
    segmentEffects (withPorts s p) i c a ts = withPorts (segmentEffects s i c a ts) p := by
  have hlearn (u : State) : segmentLearn (withPorts u p) i c a = withPorts (segmentLearn u i c a) p := by
    rw [segmentLearn, segmentLearn, learnLength_withPorts, ← apply_ite (withPorts · p)]
  have hrestart (u : State) (n : Nat) : segmentRestart (withPorts u p) i n = withPorts (segmentRestart u i n) p := by
    rw [segmentRestart, segmentRestart, restartTimer_withPorts, ← apply_ite (withPorts · p)]
  simp only [segmentEffects, createTargets_withPorts, hlearn, hrestart,
    foldl_withPorts fun u q t => writeTarget_withPorts u q a t,
    foldl_withPorts (f := fun u (t : Target) => routeComplete u t.slot) fun u q t => routeComplete_withPorts u q t.slot]

end Sys2Proof.Machine
end


section
/-! PROOFS. The storing of an expected value (spec/02, section 2.6, and spec/05, section 5.1): what SUPPLY_CHECK and CHECK share,
and statements O9, O10, O23. -/
namespace Sys2Proof.Machine

/-! ## The timer after an event that restarted it already -/

/-- Everything the DONE evaluation can do. -/
theorem evalDone_cases {s : State} {i : Nat} {c : Context} (hc : ctxOf s i = some c) :
    evalDone s i = s ∨ (∃ n, evalDone s i = enterDone s i n) ∨
      (c.state = .ending ∧ evalDone s i = failStream s i .objectCheck) := by
  by_cases hending : c.state = .ending
  · cases hlength : c.length with
    | none => exact .inl (evalDone_of_no_length hc hlength)
    | some l =>
      cases hv : c.expected with
      | none =>
        rw [evalDone_of_no_value hc hending hlength hv]
        split
        · exact .inl rfl
        · exact .inr (.inl ⟨_, rfl⟩)
      | some v =>
        rw [evalDone_of_expected hc hending hlength hv]
        split
        · exact .inl rfl
        · split
          · exact .inr (.inl ⟨_, rfl⟩)
          · exact .inr (.inr ⟨hending, rfl⟩)
  · exact .inl (evalDone_of_not_ending hc hending)

/-- A stream that has failed runs no timer. -/
theorem restartTimer_failStream {s : State} (hw : tabWf s.extents = true) {i : Nat} {x : Context}
    (hx : ctxOf s i = some x) (hst : ¬ (x.state = .failed ∨ x.state = .withdrawing)) (cause : Cause) :
    restartTimer (failStream s i cause) i = failStream s i cause := by
  obtain ⟨u, d, hfreed, heq⟩ := failStream_eq hw hx hst cause
  have hfailed : ¬ (failedContext d cause).state.running = true := by
    have hstate : (failedContext d cause).state = .failed := by rw [failedContext, hfreed.fields]; rfl
    rw [hstate]
    exact Bool.false_ne_true
  rw [heq, restartTimer_setCtx, if_neg hfailed]

theorem exists_ctxOf_evalDone {s : State} (hw : tabWf s.extents = true) {i : Nat} {c : Context} (hc : ctxOf s i = some c) :
    ∃ d, ctxOf (evalDone s i) i = some d := by
  rcases evalDone_cases hc with h | ⟨n, h⟩ | ⟨hending, h⟩
  · rw [h]
    exact ⟨c, hc⟩
  · rw [h, enterDone_eq hc]
    exact ⟨_, ctxOf_setCtx_same ..⟩
  · rw [h]
    obtain ⟨d, hd, -⟩ := failStream_fails hw hc (by simp [hending]) .objectCheck
    exact ⟨d, hd⟩

/-- The DONE evaluation of a stream whose timer has just started leaves the timer as a restart would. -/
theorem restartTimer_evalDone {s : State} (hw : tabWf s.extents = true) {i : Nat} {c : Context}
    (hstart : startTimer c = c) : restartTimer (evalDone (setCtx s i c) i) i = evalDone (setCtx s i c) i := by
  have hc : ctxOf (setCtx s i c) i = some c := ctxOf_setCtx_same ..
  rcases evalDone_cases hc with h | ⟨n, h⟩ | ⟨hending, h⟩
  · rw [h, restartTimer_setCtx, hstart, ite_self]
  · rw [h, enterDone_eq hc, setCtx_setCtx, restartTimer_setCtx]
    rfl
  · rw [h]
    exact restartTimer_failStream (s := setCtx s i c) hw hc (by simp [hending]) _

/-! ## The storing of an expected value in a record (R48, R71, R99) -/

theorem onlyStream_setExtent {s : State} {slot i : Nat} {r : Extent} (hr : tabGet s.extents slot = some r)
    (hi : r.stream = i) (q : Extent) : OnlyStream s (setExtent s slot q) i := by
  refine ⟨rfl, fun _ _ => rfl, fun n z hz hne => ⟨?_, rfl⟩⟩
  rw [setExtent_extents, tabGet_tabSet, if_neg]
  · exact hz
  · rintro rfl
    rw [hr] at hz
    cases hz
    exact hne hi

theorem not_failed_of_running {x : Context} (hrun : x.state.running = true) :
    ¬ (x.state = .failed ∨ x.state = .withdrawing) := by
  rcases (running_eq_true_iff _).1 hrun with h | h <;> simp [h]

section
variable {s : State} {i slot : Nat} {x : Context} {r : Extent} (hr : tabGet s.extents slot = some r) (v : Pcv)
include hr

theorem storeCheck_of_filling (hst : r.state ≠ .awaitCheck) :
    storeCheck s slot v = (setExtent s slot { r with expected := some v }, .stored) := by
  rw [storeCheck, hr]
  exact if_neg hst

/-- A value stored in a FILLING record: the timer restarts. -/
theorem checkStored_filling (hx : ctxOf s i = some x) (hrun : x.state.running = true) (hst : r.state ≠ .awaitCheck) :
    restartTimer (storeCheck s slot v).1 i =
      { s with
        extents := tabSet s.extents slot { r with expected := some v }
        contexts := tabSet s.contexts i { x with count := 0, phase := startPhase x.compareA x.compareB } } := by
  have hx' : ctxOf (setExtent s slot { r with expected := some v }) i = some x := hx
  rw [storeCheck_of_filling hr v hst, restartTimer_eq hx', if_pos hrun]
  rfl

theorem storeCheck_of_awaiting (hst : r.state = .awaitCheck) :
    storeCheck s slot v = compareExtent (setExtent s slot { r with expected := some v }) slot := by
  rw [storeCheck, hr]
  exact if_pos hst

theorem storeCheck_equal (hst : r.state = .awaitCheck) (hacc : r.acc = v) :
    storeCheck s slot v = (sealExtent (setExtent s slot { r with expected := some v }) slot true, .sealed) := by
  have hq : tabGet (setExtent s slot { r with expected := some v }).extents slot = some { r with expected := some v } :=
    tabGet_tabSet_same ..
  rw [storeCheck_of_awaiting hr v hst, compareExtent_of_equal hq (by rw [hacc])]

variable (hi : r.stream = i) (hx : ctxOf s i = some x)
include hi hx

theorem storeCheck_unequal (hst : r.state = .awaitCheck) (hacc : r.acc ≠ v) :
    storeCheck s slot v =
      if r.retries < x.retryLimit then (extentReset (setExtent s slot { r with expected := some v }) slot, .retry)
      else (failStream (setExtent s slot { r with expected := some v }) i .extentCheck, .freed) := by
  subst hi
  have hq : tabGet (setExtent s slot { r with expected := some v }).extents slot = some { r with expected := some v } :=
    tabGet_tabSet_same ..
  rw [storeCheck_of_awaiting hr v hst, compareExtent_of_unequal hq hx (by simpa using Ne.symm hacc)]

variable (hrun : x.state.running = true)
include hrun

/-- An equal value at a record in AWAIT_CHECK: the extent seals. -/
theorem checkStored_sealed (hw : tabWf s.extents = true) (hst : r.state = .awaitCheck) (hacc : r.acc = v) {k : Nat}
    (hk : r.index = k) :
    restartTimer (storeCheck s slot v).1 i =
      evalDone
        { s with
          extents := tabSet s.extents slot { r with state := .ready, checked := true, expected := some v }
          ready := s.ready.set x.queue (s.ready[x.queue] ++ [handleOf s slot])
          contexts :=
            tabSet s.contexts i
              { x with
                edge := (advanceEdge { x with window := winSet x k .sealed }).edge
                window := (advanceEdge { x with window := winSet x k .sealed }).window
                acc := foldPcv x.acc (extentBytes s.extentSize) k r.acc
                count := 0
                phase := startPhase x.compareA x.compareB } }
        i := by
  subst hi hk
  have hq : tabGet (setExtent s slot { r with expected := some v }).extents slot = some { r with expected := some v } :=
    tabGet_tabSet_same ..
  rw [storeCheck_equal hr v hst hacc, sealExtent_eq hq hx, sealedState, sealedContext, if_pos hrun, if_pos hrun,
    setExtent_extents, tabSet_tabSet]
  exact restartTimer_evalDone (i := r.stream)
    (s := { s with
      extents := tabSet s.extents slot { r with state := .ready, checked := true, expected := some v }
      ready := s.ready.set x.queue (s.ready[x.queue] ++ [handleOf s slot]) }) (tabWf_tabSet hw ..) rfl

/-- An unequal value at a record in AWAIT_CHECK with retries left: the extent is reset. -/
theorem checkStored_reset (hst : r.state = .awaitCheck) (hacc : r.acc ≠ v) (hretry : r.retries < x.retryLimit)
    {k : Nat} (hk : r.index = k) :
    restartTimer (storeCheck s slot v).1 i =
      { s with
        extents :=
          tabSet s.extents slot
            { r with
              state := .filling, ranges := [], acc := { s := 0, t := 0 }, expected := some v, retries := r.retries + 1 }
        contexts :=
          tabSet s.contexts i
            { x with
              notices := { x.notices with retry := some k }
              counters := { x.counters with retries := x.counters.retries.add Config.max16 1 }
              count := 0
              phase := startPhase x.compareA x.compareB } } := by
  have hq : tabGet (setExtent s slot { r with expected := some v }).extents slot = some { r with expected := some v } :=
    tabGet_tabSet_same ..
  rw [storeCheck_unequal hr v hi hx hst hacc, if_pos hretry]
  subst hi hk
  rw [extentReset_eq hq hx, restartTimer_setCtx, if_pos hrun, setExtent_setExtent]
  rfl

/-- An unequal value at a record in AWAIT_CHECK with the retries spent: the stream fails. -/
theorem checkStored_failed (hw : tabWf s.extents = true) (hst : r.state = .awaitCheck) (hacc : r.acc ≠ v)
    (hretry : x.retryLimit ≤ r.retries) :
    restartTimer (storeCheck s slot v).1 i = failStream (setExtent s slot { r with expected := some v }) i .extentCheck := by
  rw [storeCheck_unequal hr v hi hx hst hacc, if_neg hretry.not_gt]
  exact restartTimer_failStream (s := setExtent s slot { r with expected := some v }) (tabWf_tabSet hw ..) hx (not_failed_of_running hrun) _

/-- What the failure leaves of the stream and of its record. -/
theorem failStream_of_stored (hwc : tabWf s.contexts = true) (hw : tabWf s.extents = true) (hst : r.state = .awaitCheck)
    {t : State} (ht : failStream (setExtent s slot { r with expected := some v }) i .extentCheck = t) :
    ∃ d, ctxOf t i = some d ∧ d.state = .failed ∧ d.cause = some .extentCheck ∧ d.phase = .off ∧
      d.notices = { x.notices with failed := some .extentCheck } ∧ tabGet t.extents slot = none ∧ OnlyStream s t i ∧
      t.ready = s.ready ∧ t.claims = s.claims := by
  have hw' : tabWf (setExtent s slot { r with expected := some v }).extents = true := tabWf_tabSet hw ..
  have hx' : ctxOf (setExtent s slot { r with expected := some v }) i = some x := hx
  have hnot := not_failed_of_running hrun
  obtain ⟨d, hd, hfields, honly, hready, hclaims⟩ := failStream_fails hw' hx' hnot .extentCheck
  obtain ⟨e, -, -, -, hstep⟩ := failStream_step (s := setExtent s slot { r with expected := some v }) hwc hw' hx' hnot .extentCheck
  rw [ht] at hd honly hready hclaims
  refine ⟨d, hd, by rw [hfields], by rw [hfields], by rw [hfields], by rw [hfields], ?_,
    onlyStream_trans (onlyStream_setExtent hr hi _) honly, hready, hclaims⟩
  cases hget : tabGet t.extents slot with
  | none => rfl
  | some z =>
    have hmem := mem_of_tabGet hget
    rw [← ht, hstep] at hmem
    obtain ⟨hold, hkept⟩ := List.mem_filter.1 hmem
    have hz := tabGet_of_mem hw' hold
    rw [setExtent_extents, tabGet_tabSet_same] at hz
    cases hz
    simp [hi, hst, ExtentState.unsealed] at hkept

end

/-- The creation of a record with its value, on a stream that runs: the timer restarts. -/
theorem checkStored_created {s : State} {i slot : Nat} {free : List Nat} {x : Context} (hx : ctxOf s i = some x)
    (hrun : x.state.running = true) (hfree : s.freeSlots = slot :: free) (k : Nat) (v : Pcv) :
    restartTimer (createExtent s i k (some v)) i =
      { s with
        freeSlots := free
        extents := tabSet s.extents slot (newExtent i k (some v))
        contexts :=
          tabSet s.contexts i
            { x with
              window := winSet x k .live
              held := x.held + 1
              count := 0
              phase := startPhase x.compareA x.compareB } } := by
  rw [createExtent_eq hfree hx]
  refine (restartTimer_setCtx (s := { s with
    freeSlots := free, extents := tabSet s.extents slot (newExtent i k (some v)) }) i _).trans ?_
  rw [if_pos hrun]
  rfl

theorem heldWork_checkStored (s : State) (i slot : Nat) (v : Pcv) :
    HeldWork s (restartTimer (storeCheck s slot v).1 i) :=
  (heldWork_storeCheck s slot v).trans (heldWork_restartTimer ..)

theorem heldWork_checkCreated (s : State) (i k : Nat) (v : Pcv) :
    HeldWork s (restartTimer (createExtent s i k (some v)) i) :=
  (heldWork_createExtent s i k _).trans (heldWork_restartTimer ..)

/-! ## The place of an index where a value can be stored (R47, R98) -/

theorem checkPlace_of_unset {s : State} {i k slot : Nat} {x : Context} {r : Extent} (v : Pcv) (hend : IndexAllowed s x k)
    (h : winGet x k = .live) (hrec : unsealedRecord s i k = some (slot, r)) (hnone : r.expected = none) :
    checkPlace s i x k v = .store slot := by
  obtain ⟨hlo, hhi⟩ := in_window_of_winGet (by simp [h] : winGet x k ≠ .absent)
  rw [checkPlace, if_neg hend, if_neg hhi.not_ge, if_neg hlo.not_gt, h, hrec]
  simp only [hnone]

theorem checkPlace_of_creatable {s : State} {i k slot : Nat} {free : List Nat} {x : Context} (v : Pcv)
    (hend : IndexAllowed s x k) (hlo : x.edge ≤ k) (hhi : k < x.edge + 64) (h : winGet x k = .absent)
    (hfree : s.freeSlots = slot :: free) : checkPlace s i x k v = .create := by
  rw [checkPlace_of_absent v hend hlo hhi h, if_neg (by simp [hfree])]

/-! ## SUPPLY_CHECK (R99) -/

/-- The answer of SUPPLY_CHECK after its work on the held work, the command having left its queue. -/
theorem placeResponse_supplyAnswer {s t : State} (h : HeldWork s t) (c : CommandRecord) {i : Nat}
    {st : StreamState} (hd : ∃ d, ctxOf t i = some d ∧ d.state = st) (o : ExtentOutcome) :
    placeResponse c.tag (supplyAnswer (withPorts t { portsOf s with commands := s.commands.tail }) i o) =
      answer t c .ok [word (outcomeCode o), word (streamStateCode st)] := by
  obtain ⟨d, hd, rfl⟩ := hd
  rw [supplyAnswer, ctxOf_withPorts, hd, stateCodeOf_some]
  refine placeResponse_accept ?_ c _
  rw [← h.portsOf_eq, ← h.commands]
  rfl

section
variable {s : State} {c : CommandRecord} (hc : Taken .supplyCheck s c)
  (hv : pcvValid (argWord c.args 2) (argWord c.args 3) = true) {i : Nat} {x : Context}
  (h : lookupTag s (argWord c.args 0) = some (i, x)) (hst : x.state = .opened ∨ x.state = .ending)
  {k : Nat} (hk : arg32 c.args 1 = k) {v : Pcv} (hval : pcvOfWords (argWord c.args 2) (argWord c.args 3) = v)
include hc hv h hst hk hval

theorem exec_supplyCheck_store {slot : Nat} {o : ExtentOutcome} {t : State} {st : StreamState}
    (hp : checkPlace s i x k v = .store slot) (hstored : restartTimer (storeCheck s slot v).1 i = t)
    (ho : (storeCheck s slot v).2 = o) (hd : ∃ d, ctxOf t i = some d ∧ d.state = st) :
    exec .supplyCheck s = .next (answer t c .ok [word (outcomeCode o), word (streamStateCode st)]) := by
  have hwork := heldWork_checkStored s i slot v
  rw [hstored] at hwork
  have hplaced : supplyPlaced (withPorts s { portsOf s with commands := s.commands.tail }) i k v (.store slot) =
      supplyAnswer (withPorts t { portsOf s with commands := s.commands.tail }) i o := by
    rw [supplyPlaced, storeCheck_withPorts, restartTimer_withPorts, hstored, ho]
  rw [exec_supplyCheck_running hc hv h hst, hk, hval, hp, ← placeResponse_supplyAnswer hwork c hd, ← hplaced]
  rfl

theorem exec_supplyCheck_create {t : State} {st : StreamState} (hp : checkPlace s i x k v = .create)
    (hcreated : restartTimer (createExtent s i k (some v)) i = t)
    (hd : ∃ d, ctxOf t i = some d ∧ d.state = st) :
    exec .supplyCheck s = .next (answer t c .ok [word 0, word (streamStateCode st)]) := by
  have hwork := heldWork_checkCreated s i k v
  rw [hcreated] at hwork
  have hplaced : supplyPlaced (withPorts s { portsOf s with commands := s.commands.tail }) i k v .create =
      supplyAnswer (withPorts t { portsOf s with commands := s.commands.tail }) i .stored := by
    rw [supplyPlaced, createExtent_withPorts, restartTimer_withPorts, hcreated]
  rw [exec_supplyCheck_running hc hv h hst, hk, hval, hp]
  refine Eq.trans ?_ (congrArg Host.Outcome.next (placeResponse_supplyAnswer hwork c hd .stored))
  rw [← hplaced]
  rfl

end

/-- Settles O23: each place of the index, and each outcome of the compare. -/
theorem supplyCheckStoresAndCompares : Obligations.SupplyCheckStoresAndCompares := by
  unfold Obligations.SupplyCheckStoresAndCompares
  intro s c i x hc hpool hwindows h hst k e v hvs hvt hlimit hcount hlo hhi
  obtain ⟨⟨hwc, hw, -⟩, -, -⟩ := hpool
  obtain ⟨hx, -⟩ := lookupTag_some hwc h
  have hv := (pcvValid_eq_true_iff (argWord c.args 2) (argWord c.args 3)).2 ⟨hvs, hvt⟩
  have hend : IndexAllowed s x k := indexAllowed_iff.2 ⟨hlimit, hcount⟩
  have hrun := (running_eq_true_iff _).2 hst
  refine ⟨fun slot free habsent hfree => ?_, fun slot r hlive hrec hnone => ?_⟩
  · exact exec_supplyCheck_create hc hv h hst rfl rfl (checkPlace_of_creatable v hend hlo hhi habsent hfree)
      (checkStored_created hx hrun hfree k v) ⟨_, tabGet_tabSet_same .., rfl⟩
  have hplace := checkPlace_of_unset (i := i) v hend hlive hrec hnone
  obtain ⟨hr, hi, hindex⟩ := unsealedRecord_eq_some hw hrec
  refine ⟨fun hfilling => ?_, fun hawait hacc => ?_, fun hawait hacc hretry => ?_, fun hawait hacc hretry => ?_⟩
  · have hne : r.state ≠ .awaitCheck := by simp [hfilling]
    exact exec_supplyCheck_store (o := .stored) hc hv h hst rfl rfl hplace (checkStored_filling hr v hx hrun hne)
      (by rw [storeCheck_of_filling hr v hne]) ⟨_, tabGet_tabSet_same .., rfl⟩
  · have hstored := checkStored_sealed hr v hi hx hrun hw hawait hacc hindex
    obtain ⟨d, hd⟩ : ∃ d, ctxOf (restartTimer (storeCheck s slot v).1 i) i = some d := by
      rw [hstored]
      exact exists_ctxOf_evalDone (tabWf_tabSet hw ..) (tabGet_tabSet_same ..)
    rw [hstored] at hd
    exact ⟨_, d, rfl, hd, exec_supplyCheck_store (o := .sealed) hc hv h hst rfl rfl hplace hstored
      (by rw [storeCheck_equal hr v hawait hacc]) ⟨d, hd, rfl⟩⟩
  · exact exec_supplyCheck_store (o := .retry) hc hv h hst rfl rfl hplace
      (checkStored_reset hr v hi hx hrun hawait hacc hretry hindex) (by rw [storeCheck_unequal hr v hi hx hawait hacc, if_pos hretry]) ⟨_, tabGet_tabSet_same .., rfl⟩
  · obtain ⟨d, hd, hfailed, hrest⟩ := failStream_of_stored hr v hi hx hrun hwc hw hawait rfl
    have hexec := exec_supplyCheck_store (o := .freed) hc hv h hst rfl rfl hplace
      (checkStored_failed hr v hi hx hrun hw hawait hacc hretry)
      (by rw [storeCheck_unequal hr v hi hx hawait hacc, if_neg hretry.not_gt]) ⟨d, hd, hfailed⟩
    obtain ⟨hcause, hphase, hnotices, hget, honly, hready, hclaims⟩ := hrest
    exact ⟨_, d, hexec, hd, hfailed, hcause, hphase, hnotices, hget, honly, hready, hclaims, rfl⟩

/-! ## The taking of a CHECK (R28, R37) -/

/-- The ports after the arrival at the head of the input queue is taken and counted by its link. -/
def arrivedPorts (s : State) (rest : List Arrival) (link : Fin 4) : Ports :=
  { portsOf s with inputQueue := rest, links := s.links.set link (arrived s link) }

theorem countLink_arrival (s : State) (rest : List Arrival) (link : Fin 4) :
    countLink { s with inputQueue := rest } link LinkCounters.arrival = withPorts s (arrivedPorts s rest link) := rfl

/-- The answer to an admitted CHECK or TRAILER whose work on the held work is `t`. -/
theorem admitAnswer_withPorts (t : State) (p : Ports) (i : Nat) (tag : Word) (code : DispCode) :
    admitAnswer (withPorts t p) i tag code =
      withPorts t
        { p with disposition := some { code := code, tag := tag, newBytes := 0, hole := firstHoleOf t i } } := by
  rw [admitAnswer, answerMapped, firstHoleOf_withPorts]
  rfl

/-- An accepted arrival: its disposition is held, it has left the input queue, and its link has counted it. -/
theorem accepted_spec {s w t : State} (h : HeldWork s w) {rest : List Arrival} {link : Fin 4} {tag : Word} {i : Nat}
    (ht : t = admitAnswer (withPorts w (arrivedPorts s rest link)) i tag .accepted) :
    (t.disposition = some { code := .accepted, tag := tag, newBytes := 0, hole := firstHoleOf t i } ∧
      t.inputQueue = rest ∧ t.links = s.links.set link (arrived s link)) ∧
      { t with inputQueue := s.inputQueue, links := s.links, disposition := s.disposition } = w := by
  rw [admitAnswer_withPorts] at ht
  subst ht
  refine ⟨⟨?_, rfl, rfl⟩, ?_⟩
  · rw [firstHoleOf_withPorts]
    rfl
  · exact h.withPorts_eq

/-- The answer to a CHECK on a running stream by the place of its index (R47, R48). -/
def checkAnswer (s : State) (a : CheckArrival) (i : Nat) : CheckPlace → State
  | .beyondEnd => refuseArrival s i a.link a.tag .beyondEnd
  | .outOfWindow => refuseArrival s i a.link a.tag .outOfWindow
  | .late => admitAnswer s i a.tag .late
  | .held true => admitAnswer s i a.tag .duplicate
  | .held false => refuseArrival s i a.link a.tag .checkConflict
  | .noSlot => refuseArrival s i a.link a.tag .noSlot
  | .store slot => admitAnswer (restartTimer (storeCheck s slot (pcvOfWords a.s a.t)).1 i) i a.tag .accepted
  | .create => admitAnswer (restartTimer (createExtent s i a.index.toNat (some (pcvOfWords a.s a.t))) i) i a.tag .accepted

section
variable {s : State} {a : CheckArrival} {rest : List Arrival} (h : AtHead s (.check a) rest)
include h

theorem exec_check_atHead : exec .check s = .next (handleCheck { s with inputQueue := rest } a) := execCheck_atHead h

theorem exec_check_unmapped (hl : lookupTag s a.tag = none) :
    exec .check s = .next (answeredUnknown s rest a.link a.tag) := by
  rw [exec_check_atHead h, handleCheck, countLink_arrival]
  simp only [lookupTag_withPorts, hl]
  rw [← countLink_arrival, refuseUnknownStream_eq]

variable {i : Nat} {x : Context} (hl : lookupTag s a.tag = some (i, x))
include hl

theorem exec_check_failed (hst : x.state = .failed ∨ x.state = .withdrawing) :
    exec .check s = .next (turnedAway s rest a.link a.tag i x .streamFailed) := by
  rw [exec_check_atHead h, handleCheck, countLink_arrival]
  simp only [lookupTag_withPorts, hl, if_pos hst]
  rw [← countLink_arrival, refuseArrival_eq (ctxOf_of_lookupTag hl)]

theorem exec_check_done (hst : x.state = .done) :
    exec .check s = .next (answeredOnly s rest a.link a.tag i x .late) := by
  rw [exec_check_atHead h, handleCheck, countLink_arrival]
  simp only [lookupTag_withPorts, hl, hst, reduceCtorEq, or_self, if_false, if_true]
  rw [← countLink_arrival, admitAnswer_eq (ctxOf_of_lookupTag hl)]

variable (hst : x.state = .opened ∨ x.state = .ending)
include hst

theorem exec_check_bad_value (hv : pcvValid a.s a.t = false) :
    exec .check s = .next (turnedAway s rest a.link a.tag i x .badCheckValue) := by
  have hfailed : ¬ (x.state = .failed ∨ x.state = .withdrawing) := by rcases hst with hst | hst <;> simp [hst]
  have hdone : x.state ≠ .done := by rcases hst with hst | hst <;> simp [hst]
  rw [exec_check_atHead h, handleCheck, countLink_arrival]
  simp only [lookupTag_withPorts, hl, if_neg hfailed, if_neg hdone, hv, Bool.not_false, if_true]
  rw [← countLink_arrival, refuseArrival_eq (ctxOf_of_lookupTag hl)]

variable (hv : pcvValid a.s a.t = true) {p : CheckPlace}
  (hp : checkPlace s i x a.index.toNat (pcvOfWords a.s a.t) = p)
include hv hp

/-- On a running stream the place of the index decides (R47 steps 4 to 7). -/
theorem exec_check_running :
    exec .check s = .next (checkAnswer (withPorts s (arrivedPorts s rest a.link)) a i p) := by
  have hfailed : ¬ (x.state = .failed ∨ x.state = .withdrawing) := by rcases hst with hst | hst <;> simp [hst]
  have hdone : x.state ≠ .done := by rcases hst with hst | hst <;> simp [hst]
  rw [exec_check_atHead h, handleCheck, countLink_arrival]
  simp only [lookupTag_withPorts, hl, if_neg hfailed, if_neg hdone, hv, Bool.not_true, Bool.false_eq_true, if_false]
  rw [← hp]
  rfl

theorem exec_check_refused {code : DispCode}
    (hrefuse : ∀ u : State, checkAnswer u a i p = refuseArrival u i a.link a.tag code) :
    exec .check s = .next (turnedAway s rest a.link a.tag i x code) := by
  rw [exec_check_running h hl hst hv hp, hrefuse, ← countLink_arrival, refuseArrival_eq (ctxOf_of_lookupTag hl)]

theorem exec_check_answered {code : DispCode} (hanswer : ∀ u : State, checkAnswer u a i p = admitAnswer u i a.tag code) :
    exec .check s = .next (answeredOnly s rest a.link a.tag i x code) := by
  rw [exec_check_running h hl hst hv hp, hanswer, ← countLink_arrival, admitAnswer_eq (ctxOf_of_lookupTag hl)]

end

/-- Settles O9, by the stream's state, the value, and the place of the index. -/
theorem checkAnswers : Obligations.CheckAnswers := by
  unfold Obligations.CheckAnswers
  intro s a rest h
  refine ⟨exec_check_unmapped h, fun i x hl => ?_⟩
  intro refused answered e k
  refine ⟨exec_check_failed h hl, exec_check_done h hl, fun hst => ⟨fun hbad => ?_, fun hs ht => ?_⟩⟩
  · exact exec_check_bad_value h hl hst ((pcvValid_eq_false_iff ..).2 hbad)
  have hv := (pcvValid_eq_true_iff a.s a.t).2 ⟨hs, ht⟩
  refine ⟨fun hbeyond => ?_, fun hlimit hcount => ?_⟩
  · exact exec_check_refused h hl hst hv (checkPlace_of_not_allowed _ (not_indexAllowed_iff.2 hbeyond)) fun _ => rfl
  have hend : IndexAllowed s x k := indexAllowed_iff.2 ⟨hlimit, hcount⟩
  refine ⟨fun habove => ?_, fun hlate => ?_, fun slot r v _ hlive hrec hv' => ⟨fun heq => ?_, fun hne => ?_⟩,
    fun hlo hhi habsent hfull => ?_⟩
  · exact exec_check_refused h hl hst hv (checkPlace_of_above_window _ hend habove) fun _ => rfl
  · exact exec_check_answered h hl hst hv
      (hlate.elim (checkPlace_of_below_edge _ hend) (checkPlace_of_sealed _ hend)) fun _ => rfl
  · have hplace := checkPlace_of_expected (pcvOfWords a.s a.t) hend hlive hrec hv'
    rw [decide_eq_true heq] at hplace
    exact exec_check_answered h hl hst hv hplace fun _ => rfl
  · have hplace := checkPlace_of_expected (pcvOfWords a.s a.t) hend hlive hrec hv'
    rw [decide_eq_false hne] at hplace
    exact exec_check_refused h hl hst hv hplace fun _ => rfl
  · have hplace := checkPlace_of_absent (i := i) (pcvOfWords a.s a.t) hend hlo hhi habsent
    rw [if_pos hfull] at hplace
    exact exec_check_refused h hl hst hv hplace fun _ => rfl

/-! ## An admitted CHECK (R48) -/

section
variable {s : State} {a : CheckArrival} {rest : List Arrival} (h : AtHead s (.check a) rest) {i : Nat} {x : Context}
  (hl : lookupTag s a.tag = some (i, x)) (hst : x.state = .opened ∨ x.state = .ending)
  (hv : pcvValid a.s a.t = true) {k : Nat} (hk : a.index.toNat = k) {v : Pcv} (hval : pcvOfWords a.s a.t = v)
include h hl hst hv hk hval

theorem exec_check_store {slot : Nat} {w : State} (hp : checkPlace s i x k v = .store slot)
    (hstored : restartTimer (storeCheck s slot v).1 i = w) :
    exec .check s = .next (admitAnswer (withPorts w (arrivedPorts s rest a.link)) i a.tag .accepted) := by
  subst hk hval
  rw [exec_check_running h hl hst hv hp, checkAnswer, storeCheck_withPorts, restartTimer_withPorts, hstored]

theorem exec_check_create {w : State} (hp : checkPlace s i x k v = .create)
    (hcreated : restartTimer (createExtent s i k (some v)) i = w) :
    exec .check s = .next (admitAnswer (withPorts w (arrivedPorts s rest a.link)) i a.tag .accepted) := by
  subst hk hval
  rw [exec_check_running h hl hst hv hp, checkAnswer, createExtent_withPorts, restartTimer_withPorts, hcreated]

end

/-- Settles O10: each place of the index, and each outcome of the compare. -/
theorem checkStoresAndCompares : Obligations.CheckStoresAndCompares := by
  unfold Obligations.CheckStoresAndCompares
  intro s a rest i x h hpool hwindows hl hst hvs hvt e k v accepted before hlimit hcount hlo hhi
  obtain ⟨⟨hwc, hw, -⟩, -, -⟩ := hpool
  have hx := ctxOf_of_lookupTag hl
  have hv := (pcvValid_eq_true_iff a.s a.t).2 ⟨hvs, hvt⟩
  have hend : IndexAllowed s x k := indexAllowed_iff.2 ⟨hlimit, hcount⟩
  have hrun := (running_eq_true_iff _).2 hst
  refine ⟨fun slot free habsent hfree => ?_, fun slot r hlive hrec hnone => ?_⟩
  · have hcreated := checkStored_created hx hrun hfree k v
    have hexec := exec_check_create h hl hst hv rfl rfl (checkPlace_of_creatable v hend hlo hhi habsent hfree) hcreated
    obtain ⟨haccepted, hbefore⟩ := accepted_spec (hcreated ▸ heldWork_checkCreated s i k v) rfl
    exact ⟨_, hexec, haccepted, hbefore⟩
  have hplace := checkPlace_of_unset (i := i) v hend hlive hrec hnone
  obtain ⟨hr, hi, hindex⟩ := unsealedRecord_eq_some hw hrec
  have hstores {w : State} (hstored : restartTimer (storeCheck s slot v).1 i = w) :
      ∃ t, exec .check s = .next t ∧ accepted t ∧ before t = w ∧ (∀ j, ctxOf t j = ctxOf w j) ∧
        t.extents = w.extents ∧ t.ready = w.ready ∧ t.claims = w.claims := by
    obtain ⟨haccepted, hbefore⟩ := accepted_spec (hstored ▸ heldWork_checkStored s i slot v) rfl
    exact ⟨_, exec_check_store h hl hst hv rfl rfl hplace hstored, haccepted, hbefore, fun _ => rfl, rfl, rfl, rfl⟩
  refine ⟨fun hfilling => ?_, fun hawait hacc => ?_, fun hawait hacc hretry => ?_, fun hawait hacc hretry => ?_⟩
  · obtain ⟨t, hexec, haccepted, hbefore, -⟩ := hstores (checkStored_filling hr v hx hrun (by simp [hfilling]))
    exact ⟨t, hexec, haccepted, hbefore⟩
  · obtain ⟨t, hexec, haccepted, hbefore, -⟩ := hstores (checkStored_sealed hr v hi hx hrun hw hawait hacc hindex)
    exact ⟨t, hexec, haccepted, hbefore⟩
  · obtain ⟨t, hexec, haccepted, hbefore, -⟩ := hstores (checkStored_reset hr v hi hx hrun hawait hacc hretry hindex)
    exact ⟨t, hexec, haccepted, hbefore⟩
  · obtain ⟨t, hexec, haccepted, hbefore, hctx, hext, hready, hclaims⟩ :=
      hstores (checkStored_failed hr v hi hx hrun hw hawait hacc hretry)
    obtain ⟨d, hd, hfailed, hcause, hphase, hnotices, hget, honly, hready', hclaims'⟩ :=
      failStream_of_stored hr v hi hx hrun hwc hw hawait rfl
    exact ⟨t, d, hexec, haccepted, (hctx i).trans hd, hfailed, hcause, hphase, hnotices, hext ▸ hget,
      hbefore ▸ honly, hready.trans hready', hclaims.trans hclaims', hbefore⟩

end Sys2Proof.Machine
end


section
/-! PROOFS. What the later steps of an arrival keep (spec/02, section 2.5): the learning of L, the examination of records, the
seal, the compare and the DONE evaluation change one stream, and of its incomplete records none, unless it fails. -/
namespace Sys2Proof.Machine

/-! ## Events on one stream -/

/-- What an event may do to the context of its stream. -/
structure ContextEvent (c d : Context) : Prop where
  counters : d.counters = { c.counters with retries := d.counters.retries }
  length : d.length = c.length
  compares : d.compareA = c.compareA ∧ d.compareB = c.compareB
  held : d.state ≠ .failed → d.held = c.held
  opened : c.state = .opened → d.state = .opened ∨ d.state = .failed
  stays : c.state ≠ .opened → d.state ≠ .opened
  failed : c.state = .failed → d.state = .failed

theorem ContextEvent.refl (c : Context) : ContextEvent c c := ⟨rfl, rfl, ⟨rfl, rfl⟩, fun _ => rfl, .inl, id, id⟩

theorem ContextEvent.trans {c d e : Context} (h : ContextEvent c d) (k : ContextEvent d e) : ContextEvent c e where
  counters := by
    rw [k.counters, h.counters]
  length := k.length.trans h.length
  compares := ⟨k.compares.1.trans h.compares.1, k.compares.2.trans h.compares.2⟩
  held hne := (k.held hne).trans (h.held fun hfailed => hne (k.failed hfailed))
  opened hc := (h.opened hc).elim k.opened fun hfailed => .inr (k.failed hfailed)
  stays hc := k.stays (h.stays hc)
  failed hc := k.failed (h.failed hc)

/-- A change that leaves the state. -/
theorem contextEvent_of_state {c d : Context} (hcounters : d.counters = { c.counters with retries := d.counters.retries })
    (hlength : d.length = c.length) (hcompares : d.compareA = c.compareA ∧ d.compareB = c.compareB)
    (hheld : d.held = c.held) (hstate : d.state = c.state) : ContextEvent c d :=
  ⟨hcounters, hlength, hcompares, fun _ => hheld, fun h => .inl (hstate.trans h), fun h => hstate ▸ h,
    fun h => hstate.trans h⟩

/-- Whatever record stands at the slot, it is one of stream `i`. -/
def SlotOf (s : State) (i slot : Nat) : Prop := ∀ r, tabGet s.extents slot = some r → r.stream = i

/-- State `t` comes from state `s` by an event on stream `i` that writes no payload: an incomplete record stays as it is,
unless the stream fails. -/
structure StreamEvent (i : Nat) (s t : State) : Prop where
  tables : TablesWf t
  only : OnlyStream s t i
  owned : ∀ slot, SlotOf s i slot → SlotOf t i slot
  context : ∀ c, ctxOf s i = some c → ∃ d, ctxOf t i = some d ∧ ContextEvent c d
  records : ∀ slot r c d, tabGet s.extents slot = some r → r.stream = i → ctxOf s i = some c → ¬ complete s c r = true →
    ctxOf t i = some d → d.state ≠ .failed → tabGet t.extents slot = some r

theorem StreamEvent.refl {s : State} (hw : TablesWf s) (i : Nat) : StreamEvent i s s where
  tables := hw
  only := ⟨rfl, fun _ _ => rfl, fun _ _ hr _ => ⟨hr, rfl⟩⟩
  owned _ h := h
  context c hc := ⟨c, hc, .refl c⟩
  records _ _ _ _ hr _ _ _ _ _ := hr

theorem StreamEvent.extentSize {i : Nat} {s t : State} (h : StreamEvent i s t) : t.extentSize = s.extentSize := by
  obtain ⟨hframe, -⟩ := h.only
  rw [hframe]

theorem StreamEvent.trans {i : Nat} {s t u : State} (h : StreamEvent i s t) (k : StreamEvent i t u) : StreamEvent i s u where
  tables := k.tables
  only := onlyStream_trans h.only k.only
  owned slot hs := k.owned slot (h.owned slot hs)
  context c hc := by
    obtain ⟨d, hd, hcd⟩ := h.context c hc
    obtain ⟨e, he, hde⟩ := k.context d hd
    exact ⟨e, he, hcd.trans hde⟩
  records slot r c e hr hi hc hpart he hne := by
    obtain ⟨d, hd, hcd⟩ := h.context c hc
    obtain ⟨e', he', hde⟩ := k.context d hd
    rw [he] at he'
    cases he'
    have hstill : ¬ complete t d r = true := by
      rwa [complete_iff, h.extentSize, hcd.length, ← complete_iff]
    exact k.records slot r d e (h.records slot r c d hr hi hc hpart hd fun hfailed => hne (hde.failed hfailed)) hi hd
      hstill he hne

/-! ## Elementary events -/

section
variable {i : Nat} {s : State} (hw : TablesWf s)
include hw

theorem streamEvent_setCtx {c d : Context} (hc : ctxOf s i = some c) (hcd : ContextEvent c d) :
    StreamEvent i s (setCtx s i d) where
  tables := ⟨tabWf_tabSet hw.contexts .., hw.extents⟩
  only := onlyStream_setCtx s i d
  owned _ h := h
  context c' hc' := by
    rw [hc] at hc'
    cases hc'
    exact ⟨d, ctxOf_setCtx_same .., hcd⟩
  records _ _ _ _ hr _ _ _ _ _ := hr

/-- A complete record changes. -/
theorem streamEvent_setExtent {slot : Nat} {r q : Extent} (hr : tabGet s.extents slot = some r) (hi : r.stream = i)
    (hq : q.stream = i) (hfull : ∀ c, ctxOf s i = some c → complete s c r = true) :
    StreamEvent i s (setExtent s slot q) where
  tables := ⟨hw.contexts, tabWf_tabSet hw.extents ..⟩
  only := onlyStream_setExtent hr hi q
  owned n h z hz := by
    rw [setExtent_extents, tabGet_tabSet] at hz
    split at hz
    · cases hz
      exact hq
    · exact h z hz
  context c hc := ⟨c, hc, .refl c⟩
  records n z c d hz hi' hc hpart hd hne := by
    rw [setExtent_extents, tabGet_tabSet, if_neg]
    · exact hz
    · rintro rfl
      rw [hr] at hz
      cases hz
      exact hpart (hfull c hc)

theorem streamEvent_failStream (cause : Cause) : StreamEvent i s (failStream s i cause) := by
  cases hc : ctxOf s i with
  | none => rw [failStream, hc]; exact .refl hw i
  | some c =>
    by_cases hst : c.state = .failed ∨ c.state = .withdrawing
    · rw [failStream_of_failed hc hst]
      exact .refl hw i
    obtain ⟨d, hd, hfields, honly, -, -⟩ := failStream_fails hw.extents hc hst cause
    obtain ⟨d', -, -, -, hstep⟩ := failStream_step hw.contexts hw.extents hc hst cause
    have hext : (failStream s i cause).extents =
        s.extents.filter (fun y => !(y.2.stream == i && y.2.state.unsealed)) := by rw [hstep]
    have hfailed : d.state = .failed := by rw [hfields]
    exact {
      tables := ⟨tabWf_failStream hw.contexts .., hext ▸ tabWf_filter hw.extents _⟩
      only := honly
      owned := fun slot h r hr => by
        have hmem := mem_of_tabGet hr
        rw [hext] at hmem
        exact h r (tabGet_of_mem hw.extents (List.mem_filter.1 hmem).1)
      context := fun c' hc' => by
        rw [hc] at hc'
        cases hc'
        refine ⟨d, hd, ⟨?_, ?_, ?_, fun hne => absurd hfailed hne, fun _ => .inr hfailed, fun _ => by simp [hfailed],
          fun _ => hfailed⟩⟩
        · rw [hfields]
        · rw [hfields]
        · rw [hfields]
          exact ⟨rfl, rfl⟩
      records := fun slot r c' d' _ _ _ _ hd' hne => by
        rw [hd] at hd'
        cases hd'
        exact absurd hfailed hne }

theorem streamEvent_enterDone {c : Context} (hc : ctxOf s i = some c) (hending : c.state = .ending) (n : Nat) :
    StreamEvent i s (enterDone s i n) := by
  rw [enterDone_eq hc]
  exact streamEvent_setCtx hw hc ⟨rfl, rfl, ⟨rfl, rfl⟩, fun _ => rfl, fun h => by simp [hending] at h, fun _ => by simp,
    fun h => by simp [hending] at h⟩

theorem streamEvent_evalDone : StreamEvent i s (evalDone s i) := by
  cases hc : ctxOf s i with
  | none => rw [evalDone, hc]; exact .refl hw i
  | some c =>
    by_cases hending : c.state = .ending
    · rcases evalDone_cases hc with h | ⟨n, h⟩ | ⟨-, h⟩
      · rw [h]
        exact .refl hw i
      · rw [h]
        exact streamEvent_enterDone hw hc hending n
      · rw [h]
        exact streamEvent_failStream hw _
    · rw [evalDone_of_not_ending hc hending]
      exact .refl hw i

/-! ## The routing of complete records -/

section
variable {slot : Nat} {r : Extent} (hr : tabGet s.extents slot = some r) (hi : r.stream = i)
  (hfull : ∀ c, ctxOf s i = some c → complete s c r = true)
include hr hi hfull

theorem streamEvent_sealExtent (checked : Bool) : StreamEvent i s (sealExtent s slot checked) := by
  cases hc : ctxOf s i with
  | none =>
    rw [sealExtent, hr]
    simp only [hi, hc]
    exact .refl hw i
  | some c =>
    have hset := streamEvent_setExtent (q := { r with state := .ready, checked := checked }) hw hr hi hi hfull
    have hstate : sealedState s slot checked r c =
        { setCtx (setExtent s slot { r with state := .ready, checked := checked }) i
            (sealedContext (extentBytes s.extentSize) c r) with
          ready := s.ready.set c.queue (s.ready[c.queue] ++ [handleOf s slot]) } := by
      rw [sealedState, hi]
      rfl
    have hevent : StreamEvent i s (sealedState s slot checked r c) := by
      have hctx : StreamEvent i s (setCtx (setExtent s slot { r with state := .ready, checked := checked }) i
          (sealedContext (extentBytes s.extentSize) c r)) :=
        hset.trans (streamEvent_setCtx hset.tables hc (contextEvent_of_state rfl rfl ⟨rfl, rfl⟩ rfl rfl))
      rw [hstate]
      obtain ⟨hframe, hothers, hrest⟩ := hctx.only
      exact ⟨⟨hctx.tables.1, hctx.tables.2⟩, ⟨congrArg (fun u : State =>
          { u with ready := s.ready.set c.queue (s.ready[c.queue] ++ [handleOf s slot]) }) hframe, hothers, hrest⟩,
        hctx.owned, hctx.context, hctx.records⟩
    rw [sealExtent_eq hr (hi ▸ hc), hi]
    exact hevent.trans (streamEvent_evalDone hevent.tables)

theorem streamEvent_extentReset : StreamEvent i s (extentReset s slot) := by
  cases hc : ctxOf s i with
  | none =>
    rw [extentReset, hr]
    simp only [modCtx, hi]
    have hnone : ctxOf (setExtent s slot
        { r with state := .filling, ranges := [], acc := { s := 0, t := 0 }, retries := r.retries + 1 }) i = none := hc
    rw [show r = { r with stream := i } by rw [← hi]] at hnone
    simp only [hnone]
    exact streamEvent_setExtent hw hr hi rfl hfull
  | some c =>
    subst hi
    rw [extentReset_eq hr hc]
    have hset := streamEvent_setExtent (q := { r with
      state := .filling, ranges := [], acc := { s := 0, t := 0 }, retries := r.retries + 1 }) hw hr rfl rfl hfull
    refine hset.trans (streamEvent_setCtx hset.tables hc ?_)
    exact contextEvent_of_state rfl rfl ⟨rfl, rfl⟩ rfl rfl

theorem streamEvent_compareExtent : StreamEvent i s (compareExtent s slot).1 := by
  by_cases hv : r.expected = some r.acc
  · rw [compareExtent_of_equal hr hv]
    exact streamEvent_sealExtent hw hr hi hfull true
  · cases hc : ctxOf s i with
    | none =>
      rw [compareExtent, hr]
      simp only [if_neg hv, hi, hc]
      exact .refl hw i
    | some c =>
      rw [compareExtent_of_unequal hr (hi ▸ hc) hv]
      split
      · exact streamEvent_extentReset hw hr hi hfull
      · rw [hi]
        exact streamEvent_failStream hw _

end

theorem streamEvent_routeComplete {slot : Nat} (hslot : SlotOf s i slot) : StreamEvent i s (routeComplete s slot) := by
  cases hr : tabGet s.extents slot with
  | none => rw [routeComplete, hr]; exact .refl hw i
  | some r =>
    have hi := hslot r hr
    cases hc : ctxOf s i with
    | none =>
      rw [routeComplete, hr]
      simp only [hi, hc]
      exact .refl hw i
    | some c =>
      by_cases h : r.state = .filling ∧ complete s c r = true
      · have hfull : ∀ c', ctxOf s i = some c' → complete s c' r = true := by
          intro c' hc'
          rw [hc] at hc'
          cases hc'
          exact h.2
        rw [routeComplete_of_complete hr (hi ▸ hc) h]
        split
        · split
          · exact streamEvent_setExtent hw hr hi hi hfull
          · exact streamEvent_sealExtent hw hr hi hfull false
        · exact streamEvent_compareExtent hw hr hi hfull
      · rw [routeComplete_of_incomplete hr (hi ▸ hc) h]
        exact .refl hw i

end

theorem slotOf_findUnsealed {s : State} (hw : tabWf s.extents = true) {i k slot : Nat}
    (h : findUnsealed s i k = some slot) :
    ∃ r, tabGet s.extents slot = some r ∧ r.stream = i ∧ r.index = k ∧ r.state.unsealed = true := by
  rw [findUnsealed, Option.map_eq_some_iff] at h
  obtain ⟨y, hy, rfl⟩ := h
  have hprop := List.find?_some hy
  simp only [Bool.and_eq_true, beq_iff_eq] at hprop
  exact ⟨y.2, tabGet_of_mem hw (List.mem_of_find?_eq_some hy), hprop.1.1, hprop.1.2, hprop.2⟩

theorem streamEvent_routeLast {i : Nat} {s : State} (hw : TablesWf s) (l : Nat) : StreamEvent i s (routeLast s i l) := by
  unfold routeLast
  dsimp only
  split
  · cases h : findUnsealed s i (extentCount (extentBytes s.extentSize) l - 1) with
    | none => exact .refl hw i
    | some slot =>
      obtain ⟨r, hr, hi, -⟩ := slotOf_findUnsealed hw.extents h
      refine streamEvent_routeComplete hw fun q hq => ?_
      rw [hr] at hq
      cases hq
      exact hi
  · exact .refl hw i

theorem streamEvent_foldl_routeComplete {i : Nat} (ts : List Target) {s : State} (hw : TablesWf s)
    (hslots : ∀ g ∈ ts, SlotOf s i g.slot) : StreamEvent i s (ts.foldl (fun u g => routeComplete u g.slot) s) := by
  induction ts generalizing s with
  | nil => exact .refl hw i
  | cons g ts ih =>
    have hfirst := streamEvent_routeComplete hw (hslots g List.mem_cons_self)
    exact hfirst.trans (ih hfirst.tables fun g' hg' => hfirst.owned _ (hslots g' (List.mem_cons_of_mem _ hg')))

/-! ## The learning of L (R26) -/

theorem learnLength_of_opened {s : State} {i l : Nat} {c : Context} (hc : ctxOf s i = some c) (hopen : c.state = .opened) :
    learnLength s i l = evalDone (routeLast (setCtx s i { c with length := some l, state := .ending }) i l) i := by
  rw [learnLength, hc]
  exact if_pos hopen

theorem learnLength_of_not_opened {s : State} {i l : Nat} {c : Context} (hc : ctxOf s i = some c)
    (hopen : c.state ≠ .opened) : learnLength s i l = s := by
  rw [learnLength, hc]
  exact if_neg hopen

/-- After the entry into ENDING with its L, the learning of L is an event on the stream. -/
theorem streamEvent_learnLength {s : State} (hw : TablesWf s) {i l : Nat} {c : Context} (hc : ctxOf s i = some c)
    (hopen : c.state = .opened) :
    StreamEvent i (setCtx s i { c with length := some l, state := .ending }) (learnLength s i l) := by
  have hset : TablesWf (setCtx s i { c with length := some l, state := .ending }) :=
    ⟨tabWf_tabSet hw.contexts .., hw.extents⟩
  have hroute := streamEvent_routeLast (i := i) hset l
  rw [learnLength_of_opened hc hopen]
  exact hroute.trans (streamEvent_evalDone hroute.tables)

end Sys2Proof.Machine
end


section
/-! PROOFS. Claims (spec/07, sections 7.6 and 7.7): the last releases of a claim, and the check value of the bytes of a claimed
extent; statements O43 and O41. -/
namespace Sys2Proof.Machine

/-! ## The release that frees its record -/

/-- State `s` with the claimed record at `h` freed, the context of its stream being `x` before (R60). -/
def claimFreed (s : State) (h : Handle) (i : Nat) (x : Context) : State :=
  { s with
    contexts := tabSet s.contexts i { x with held := x.held - 1 }
    extents := tabErase s.extents h.slot
    freeSlots := s.freeSlots ++ [h.slot]
    gens := bumpGen s h.slot
    claims := s.claims.filter (fun g => g != h) }

theorem freeExtent_of_currentClaim {s : State} {h : Handle} {r : Extent} {x : Context} (hc : CurrentClaim s h r x) :
    freeExtent s h.slot = claimFreed s h r.stream x := by
  obtain ⟨hgen, -, -, hr, hclaimed, hx⟩ := hc
  rw [freeExtent_of_claimed hr hx hclaimed, handleOf_of_genOf hgen]
  rfl

/-- A claim stays current while the context of its stream changes. -/
theorem currentClaim_setCtx {s : State} {h : Handle} {r : Extent} {x : Context} (hc : CurrentClaim s h r x) (d : Context) :
    CurrentClaim (setCtx s r.stream d) h r d := by
  obtain ⟨hgen, hslot, hclaim, hr, hclaimed, -⟩ := hc
  exact ⟨hgen, hslot, hclaim, hr, hclaimed, ctxOf_setCtx_same ..⟩

theorem claimFreed_setCtx (s : State) (h : Handle) (i : Nat) (c d : Context) :
    claimFreed (setCtx s i c) h i d = claimFreed s h i d := by
  have hgens : bumpGen (setCtx s i c) h.slot = bumpGen s h.slot := rfl
  simp [claimFreed, hgens]

theorem ctxOf_claimFreed (s : State) (h : Handle) (i : Nat) (x : Context) :
    ctxOf (claimFreed s h i x) i = some { x with held := x.held - 1 } :=
  tabGet_tabSet_same ..

theorem genOf_claimFreed (s : State) (h : Handle) (i : Nat) (x : Context) (n : Nat) :
    genOf (claimFreed s h i x) n = if n = h.slot then genOf s n + 1 else genOf s n :=
  getD_bumpGen s h.slot n

theorem recordsOf_claimFreed (s : State) (h : Handle) (i j : Nat) (x : Context) :
    recordsOf (claimFreed s h i x) j = (recordsOf s j).filter (fun y => y.1 != h.slot) := by
  simp only [recordsOf, claimFreed, tabErase_eq_filter, List.filter_filter, Bool.and_comm]

section
variable {s : State} {h : Handle} {r : Extent} {x : Context} (hw : tabWf s.extents = true) (hc : CurrentClaim s h r x)
include hw hc

/-- The records of the stream that are not CLAIMED stay. -/
theorem filter_recordsOf_claimFreed (i : Nat) (d : Context) {p : ExtentState → Bool} (hp : p .claimed = false) :
    (recordsOf (claimFreed s h i d) r.stream).filter (fun y => p y.2.state) =
      (recordsOf s r.stream).filter (fun y => p y.2.state) := by
  obtain ⟨-, -, -, hr, hclaimed, -⟩ := hc
  rw [recordsOf_claimFreed, List.filter_filter]
  refine List.filter_congr fun y hy => ?_
  by_cases hslot : y.1 = h.slot
  · have hget := ((mem_recordsOf hw).1 hy).1
    rw [hslot, hr] at hget
    cases hget
    simp [hclaimed, hp]
  · simp [hslot]

/-- The slot of a claim is that of no unsealed record. -/
theorem claim_not_mem_unsealedRecords : h.slot ∉ (unsealedRecords s r.stream).map (·.1) := by
  obtain ⟨-, -, -, hr, hclaimed, -⟩ := hc
  intro hmem
  obtain ⟨y, hy, hslot⟩ := List.mem_map.1 hmem
  obtain ⟨hget, -, hunsealed⟩ := (mem_unsealedRecords hw).1 hy
  rw [hslot, hr] at hget
  cases hget
  simp [hclaimed, ExtentState.unsealed] at hunsealed

end

/-! ## The last releases (R15, R151) -/

theorem countStoreFailure_of_some {s : State} {i : Nat} {x : Context} (hx : ctxOf s i = some x) :
    countStoreFailure s i =
      setCtx s i { x with counters := { x.counters with storeFailures := x.counters.storeFailures.add Config.max16 1 } } :=
  modCtx_of_some hx _

theorem releaseClaim_exhausted {s : State} {h : Handle} {r : Extent} {x : Context} (hc : CurrentClaim s h r x)
    (hst : x.state ≠ .withdrawing) (hlimit : s.storeLimit ≤ r.storeAttempts + 1) :
    releaseClaim s h r x .failedStore =
      (failStream (claimFreed s h r.stream
        { x with counters := { x.counters with storeFailures := x.counters.storeFailures.add Config.max16 1 } })
        r.stream .store, .releasedFailed) := by
  have hx := hc.2.2.2.2.2
  rw [releaseClaim, if_neg hst]
  simp only [if_neg (Nat.not_lt.2 hlimit), countRelease, countStoreFailure_of_some hx]
  rw [freeExtent_of_currentClaim (currentClaim_setCtx hc _), claimFreed_setCtx]

theorem setCtx_claimFreed (s : State) (h : Handle) (i : Nat) (x d : Context) :
    setCtx (claimFreed s h i x) i { d with held := d.held - 1 } = claimFreed s h i d := by
  simp [claimFreed, setCtx]

/-- Whether the stream of a claim has no other claim. -/
def isLastClaim (s : State) (h : Handle) (i : Nat) : Bool :=
  (recordsOf s i).all (fun y => y.1 == h.slot || y.2.state != .claimed)

theorem slotsOf_claimFreed_isEmpty (s : State) (h : Handle) (i : Nat) (x : Context) :
    (slotsOf (claimFreed s h i x) i (· == .claimed)).isEmpty = isLastClaim s h i := by
  rw [slotsOf, recordsOf_claimFreed, Bool.eq_iff_iff]
  simp only [isLastClaim, List.isEmpty_iff, List.map_eq_nil_iff, List.filter_filter, List.filter_eq_nil_iff,
    List.all_eq_true]
  exact forall₂_congr fun y _ => by by_cases hy : y.1 = h.slot <;> simp [hy]

/-- The release of a claim on a WITHDRAWING stream (R15). -/
theorem releaseWithdrawn_of_currentClaim {s : State} {h : Handle} {r : Extent} {x : Context} (hc : CurrentClaim s h r x)
    (hst : x.state = .withdrawing) :
    releaseWithdrawn s h.slot r.stream =
      claimFreed s h r.stream
        { x with
          state := if isLastClaim s h r.stream = true then .failed else .withdrawing
          cause := if isLastClaim s h r.stream = true then some .aborted else x.cause } := by
  rw [releaseWithdrawn, freeExtent_of_currentClaim hc]
  simp only [slotsOf_claimFreed_isEmpty]
  by_cases hlast : isLastClaim s h r.stream = true
  · rw [if_pos hlast, if_pos hlast, if_pos hlast, modCtx_of_some (ctxOf_claimFreed ..)]
    exact setCtx_claimFreed s h r.stream x { x with state := .failed, cause := some .aborted }
  · rw [if_neg hlast, if_neg hlast, if_neg hlast, ← hst]

theorem releaseClaim_withdrawing {s : State} {h : Handle} {r : Extent} {x : Context} (hc : CurrentClaim s h r x)
    (hst : x.state = .withdrawing) (outcome : StoreOutcome) :
    releaseClaim s h r x outcome =
      (claimFreed s h r.stream
        { x with
          state := if isLastClaim s h r.stream = true then .failed else .withdrawing
          cause := if isLastClaim s h r.stream = true then some .aborted else x.cause
          counters :=
            if outcome = .failedStore then
              { x.counters with storeFailures := x.counters.storeFailures.add Config.max16 1 }
            else x.counters }, .withdrawn) := by
  have hx := hc.2.2.2.2.2
  cases outcome with
  | stored =>
    rw [releaseClaim, if_pos hst]
    exact congrArg (fun t => (t, DrainStatus.withdrawn)) (releaseWithdrawn_of_currentClaim hc hst)
  | failedStore =>
    have hcounted := currentClaim_setCtx hc
      { x with counters := { x.counters with storeFailures := x.counters.storeFailures.add Config.max16 1 } }
    rw [releaseClaim, if_pos hst]
    simp only [countRelease, countStoreFailure_of_some hx]
    rw [releaseWithdrawn_of_currentClaim hcounted hst, claimFreed_setCtx]
    rfl

/-- The records of the slots that a failing release frees, its own slot first. -/
theorem filter_extents_claimFreed {s : State} (hw : tabWf s.extents = true)
    (h : Handle) (r : Extent) (i : Nat) (d : Context) :
    (claimFreed s h i d).extents.filter (fun y => !(y.2.stream == r.stream && y.2.state.unsealed)) =
      s.extents.filter (fun y => !(h.slot :: (unsealedRecords s r.stream).map (·.1)).contains y.1) := by
  have hsplit : s.extents.filter (fun y => !(h.slot :: (unsealedRecords s r.stream).map (·.1)).contains y.1) =
      (s.extents.filter (fun y => y.1 ∉ (unsealedRecords s r.stream).map (·.1))).filter (fun y => y.1 != h.slot) := by
    rw [List.filter_filter]
    refine List.filter_congr fun y _ => ?_
    simp [bne]
  rw [hsplit, filter_unsealedRecords hw, List.filter_filter, claimFreed, tabErase_eq_filter, List.filter_filter]
  simp only [Bool.and_comm]

theorem any_eq_not_isEmpty_filter {α : Type} (l : List α) (p : α → Bool) : l.any p = !(l.filter p).isEmpty := by
  rw [Bool.eq_iff_iff]
  simp

/-- Settles O43: the release is the freeing of its record (`releaseClaim_exhausted`, `releaseClaim_withdrawing`), and the
failure of the stream is that of `failStream_step`. -/
theorem lastReleasesEndStreams : Obligations.LastReleasesEndStreams := by
  intro s h r x hs hpool hc counted unsealed
  have hwe := hpool.1.2.1
  refine ⟨?_, ?_⟩
  · intro hlimit hst gone
    have hexec := exec_release_of_currentClaim hs hc .failedStore
    rw [releaseClaim_exhausted hc hst hlimit] at hexec
    by_cases hfailed : x.state = .failed
    · rw [failStream_of_failed (ctxOf_claimFreed s h r.stream { x with counters := counted }) (.inl hfailed)] at hexec
      have hgone : gone = [h.slot] := by simp [gone, hfailed]
      refine ⟨_, _, hexec, fun _ => rfl, fun hne => absurd hfailed hne, fun n => ?_, ?_⟩
      · simp only [hgone, List.mem_singleton]
        exact getD_bumpGen s h.slot n
      · rw [if_neg (fun hne => hne.1 hfailed), hgone, claimFreed, tabErase_eq_filter]
        simp only [List.contains_cons, List.contains_nil, Bool.or_false, bne]
    · have hgone : gone = h.slot :: unsealed.map (·.1) := by simp only [gone, if_neg hfailed]
      obtain ⟨d, hd, hwin, hgen, ht⟩ := failStream_step
        (s := claimFreed s h r.stream { x with counters := counted }) (tabWf_tabSet hpool.1.1 ..)
        (tabWf_tabErase hwe _) (ctxOf_claimFreed ..) (by simp [hfailed, hst]) .store
      have hunsealed : unsealedRecords (claimFreed s h r.stream { x with counters := counted }) r.stream = unsealed :=
        filter_recordsOf_claimFreed hwe hc _ _ (p := ExtentState.unsealed) rfl
      have hready : (recordsOf (claimFreed s h r.stream { x with counters := counted }) r.stream).any
          (fun y => y.2.state == .ready) = (recordsOf s r.stream).any (fun y => y.2.state == .ready) := by
        rw [any_eq_not_isEmpty_filter, any_eq_not_isEmpty_filter]
        exact congrArg (fun l => !l.isEmpty) (filter_recordsOf_claimFreed hwe hc _ _ (p := (· == .ready)) rfl)
      rw [hunsealed] at hd hwin hgen ht
      refine ⟨_, d, hexec, fun h => absurd h hfailed, fun _ => ⟨hd, hwin⟩, fun n => ?_, ?_⟩
      · have hnot : h.slot ∉ unsealed.map (·.1) := claim_not_mem_unsealedRecords hwe hc
        refine (hgen n).trans ?_
        rw [genOf_claimFreed, hgone]
        by_cases hslot : n = h.slot
        · subst hslot
          rw [if_neg hnot, if_pos rfl, if_pos List.mem_cons_self]
        · simp only [List.mem_cons, hslot, false_or, if_false]
      · rw [ht, hready, filter_extents_claimFreed hwe, hgone]
        simp only [claimFreed, tabSet_tabSet, List.append_assoc, List.singleton_append, ne_eq, hfailed,
          not_false_eq_true, true_and]
        rfl
  · intro hst outcome last
    have hexec := exec_release_of_currentClaim hs hc outcome
    rw [releaseClaim_withdrawing hc hst] at hexec
    exact ⟨_, hexec, getD_bumpGen s h.slot, rfl⟩

/-! ## The bytes of a claimed extent (R96) -/

theorem pcvOf_append_zeros (bs : List Byte) (n : Nat) : pcvOf (bs ++ List.replicate n 0) = pcvOf bs := by
  simp only [pcvOf_eq_byteSum, byteSum_append_zeros]

/-- A record whose one fill range is [0, len) holds the bytes up to `len` and zeros behind them. -/
theorem heldBytes_of_one_range {s : State} {r : Extent} {len : Nat} (hranges : r.ranges = [(0, len)])
    (hlen : len ≤ extentBytes s.extentSize) (slot : Nat) :
    heldBytes s slot r =
      (List.range len).map (fun p => readByte s.mem (slot * extentBytes s.extentSize + p)) ++
        List.replicate (extentBytes s.extentSize - len) 0 := by
  have hcovers (p : Nat) : covers r.ranges p = decide (p < len) := by simp [hranges, covers]
  refine List.ext_getElem (by simp [heldBytes, hlen]) fun p _ _ => ?_
  by_cases hp : p < len
  · simp [heldBytes, hcovers, hp]
  · simp [heldBytes, hcovers, hp, List.getElem_append]

/-- Settles O41: the one range of a CLAIMED record is the whole extent (R74, R138), and its accumulators are the PCV of its
bytes (R89), to which the zeros behind them add nothing. -/
theorem claimedBytesHaveDescriptorPcv : Obligations.ClaimedBytesHaveDescriptorPcv := by
  intro s h r x _ hranges hacc hc e q
  obtain ⟨-, -, -, hr, hclaimed, hx⟩ := hc
  have hmem := mem_of_tabGet hr
  have hcomplete := (hranges _ hmem x hx).2 (by simp [hclaimed])
  have hpcv : (descriptorOf s q h).pcv = r.acc := by
    rw [descriptorOf, hr]
    simp only [hx]
    rfl
  rw [hpcv, hacc _ hmem, heldBytes_of_one_range ((complete_iff ..).1 hcomplete)
    (extentLength_le (extentBytes_pos _) ..), pcvOf_append_zeros]

end Sys2Proof.Machine
end


section
/-! PROOFS. The records of the ports (spec/12): where each field of a written record stands, and that every record reads back;
statement O60. -/
namespace Sys2Proof

/-! ## Fields of bits written one above the other -/

theorem extractLsb'_append_low {v w off len : Nat} (x : BitVec v) (y : BitVec w) (h : off + len ≤ w) :
    (x ++ y).extractLsb' off len = y.extractLsb' off len :=
  BitVec.extractLsb'_append_eq_of_add_le h

theorem extractLsb'_append_high {v w off len : Nat} (x : BitVec v) (y : BitVec w) :
    (x ++ y).extractLsb' (w + off) len = x.extractLsb' off len := by
  rw [BitVec.extractLsb'_append_eq_of_le (Nat.le_add_right ..), Nat.add_sub_cancel_left]

/-- The field that stands right above the lower bits `y`, with `x` above it. -/
theorem extractLsb'_append_middle {u v w : Nat} (x : BitVec u) (f : BitVec v) (y : BitVec w) :
    (x ++ (f ++ y)).extractLsb' w v = f := by
  rw [extractLsb'_append_low _ _ (by omega)]
  exact (extractLsb'_append_high (off := 0) f y).trans BitVec.extractLsb'_eq_self

theorem bitsFin4_fin4Bits (q : Fin 4) : bitsFin4 (fin4Bits q) = q := by
  apply Fin.ext
  exact Nat.mod_eq_of_lt q.isLt

/-- A field within the `n` bits from `base` on. -/
theorem extractLsb'_within {w n : Nat} (r : BitVec w) (base : Nat) {off len : Nat} (h : off + len ≤ n) :
    r.extractLsb' (base + off) len = (r.extractLsb' base n).extractLsb' off len := by
  refine BitVec.eq_of_getLsbD_eq fun i hi => ?_
  have hn : off + i < n := by omega
  simp [hi, hn, Nat.add_assoc]

theorem extractLsb'_low {w n : Nat} (r : BitVec w) {off len : Nat} (h : off + len ≤ n) :
    r.extractLsb' off len = (r.extractLsb' 0 n).extractLsb' off len := by
  rw [← extractLsb'_within r 0 h, Nat.zero_add]

theorem getLsbD_within {w n : Nat} (r : BitVec w) (base : Nat) {i : Nat} (h : i < n) :
    r.getLsbD (base + i) = (r.extractLsb' base n).getLsbD i := by
  simp [h]

/-! ## Arrivals (section 12.1) -/

/-- The fields of the first eight bytes of an arrival header. -/
structure HeaderFields (h : BitVec 256) (kind : Byte) (link : Fin 4) (flag : Bool) (len : BitVec 16) (tag : Word) : Prop where
  kind : recordField h 0 1 = kind
  link : headerLink h = link
  flag : h.getLsbD 10 = flag
  len : recordField h 2 2 = len
  tag : recordField h 4 4 = tag

theorem headerFields_of_low {h : BitVec 256} {kind : Byte} {link : Fin 4} {flag : Bool} {len : BitVec 16} {tag : Word}
    (hlow : h.extractLsb' 0 64 = headerBits kind link flag len tag) : HeaderFields h kind link flag len tag where
  kind := by
    rw [recordField, extractLsb'_low (n := 64) h (by decide), hlow, headerBits, extractLsb'_append_low,
      extractLsb'_append_low, extractLsb'_append_low, extractLsb'_append_low, extractLsb'_append_low] <;> simp
  link := by
    have hbits : h.extractLsb' 8 2 = fin4Bits link := by
      rw [extractLsb'_low (n := 64) h (by decide), hlow, headerBits, extractLsb'_append_low, extractLsb'_append_low,
        extractLsb'_append_low, extractLsb'_append_middle] <;> decide
    rw [headerLink, hbits, bitsFin4_fin4Bits]
  flag := by
    rw [show h.getLsbD 10 = _ from getLsbD_within (n := 64) h 0 (i := 10) (by decide), hlow, headerBits, BitVec.getLsbD_append, BitVec.getLsbD_append,
      BitVec.getLsbD_append, BitVec.getLsbD_append]
    simp
  len := by
    rw [recordField, extractLsb'_low (n := 64) h (by decide), hlow, headerBits]
    exact extractLsb'_append_middle tag len _
  tag := by
    rw [recordField, extractLsb'_low (n := 64) h (by decide), hlow, headerBits]
    exact (extractLsb'_append_high (off := 0) tag _).trans BitVec.extractLsb'_eq_self

theorem decodeArrival_segment {a : SegmentArrival} (hlen : a.payload.length ≤ 65535) :
    decodeArrival (encodeArrival (.segment a)).1 (encodeArrival (.segment a)).2 = some (.segment a) := by
  obtain ⟨link, tag, offset, final, payload⟩ := a
  have hfields := headerFields_of_low (kind := 0x01) (link := link) (flag := final)
    (len := BitVec.ofNat 16 payload.length) (tag := tag)
    (h := (encodeArrival (.segment ⟨link, tag, offset, final, payload⟩)).1) (by
      rw [encodeArrival, extractLsb'_append_low, extractLsb'_append_low, BitVec.extractLsb'_eq_self] <;> decide)
  have hoffset : recordField (encodeArrival (.segment ⟨link, tag, offset, final, payload⟩)).1 8 6 = offset :=
    extractLsb'_append_middle _ offset _
  obtain ⟨hkind, hlink, hflag, hpayload, htag⟩ := hfields
  rw [decodeArrival, if_pos hkind, if_pos, hlink, htag, hoffset, hflag]
  · rfl
  · rw [hpayload, BitVec.toNat_ofNat]
    exact (Nat.mod_eq_of_lt (Nat.lt_succ_of_le hlen)).symm

theorem decodeArrival_check (a : CheckArrival) :
    decodeArrival (encodeArrival (.check a)).1 (encodeArrival (.check a)).2 = some (.check a) := by
  obtain ⟨link, tag, index, s, t⟩ := a
  have hfields := headerFields_of_low (kind := 0x02) (link := link) (flag := false) (len := 0) (tag := tag)
    (h := (encodeArrival (.check ⟨link, tag, index, s, t⟩)).1) (by
      rw [encodeArrival, extractLsb'_append_low, extractLsb'_append_low, extractLsb'_append_low, extractLsb'_append_low,
        extractLsb'_append_low, BitVec.extractLsb'_eq_self] <;> decide)
  have ht : recordField (encodeArrival (.check ⟨link, tag, index, s, t⟩)).1 20 4 = t := extractLsb'_append_middle _ t _
  have hs : recordField (encodeArrival (.check ⟨link, tag, index, s, t⟩)).1 16 4 = s := by
    rw [recordField, encodeArrival, extractLsb'_append_low _ _ (by decide)]
    exact extractLsb'_append_middle _ s _
  have hindex : recordField (encodeArrival (.check ⟨link, tag, index, s, t⟩)).1 8 4 = index := by
    rw [recordField, encodeArrival, extractLsb'_append_low _ _ (by decide), extractLsb'_append_low _ _ (by decide),
      extractLsb'_append_low _ _ (by decide)]
    exact extractLsb'_append_middle _ index _
  obtain ⟨hkind, hlink, -, -, htag⟩ := hfields
  rw [decodeArrival, hkind, if_neg (by decide), hlink, htag, hindex, hs, ht]
  rfl

theorem decodeArrival_trailer (a : TrailerArrival) :
    decodeArrival (encodeArrival (.trailer a)).1 (encodeArrival (.trailer a)).2 = some (.trailer a) := by
  obtain ⟨link, tag, length, pcv⟩ := a
  have hfields := headerFields_of_low (kind := 0x03) (link := link) (flag := pcv.isSome) (len := 0) (tag := tag)
    (h := (encodeArrival (.trailer ⟨link, tag, length, pcv⟩)).1) (by
      rw [encodeArrival, extractLsb'_append_low, extractLsb'_append_low, extractLsb'_append_low, extractLsb'_append_low,
        extractLsb'_append_low, BitVec.extractLsb'_eq_self] <;> decide)
  have ht : recordField (encodeArrival (.trailer ⟨link, tag, length, pcv⟩)).1 20 4 = (pcv.getD (0, 0)).2 :=
    extractLsb'_append_middle _ (pcv.getD (0, 0)).2 _
  have hs : recordField (encodeArrival (.trailer ⟨link, tag, length, pcv⟩)).1 16 4 = (pcv.getD (0, 0)).1 := by
    rw [recordField, encodeArrival, extractLsb'_append_low _ _ (by decide)]
    exact extractLsb'_append_middle _ (pcv.getD (0, 0)).1 _
  have hlength : recordField (encodeArrival (.trailer ⟨link, tag, length, pcv⟩)).1 8 6 = length := by
    rw [recordField, encodeArrival, extractLsb'_append_low _ _ (by decide), extractLsb'_append_low _ _ (by decide),
      extractLsb'_append_low _ _ (by decide)]
    exact extractLsb'_append_middle _ length _
  obtain ⟨hkind, hlink, hflag, -, htag⟩ := hfields
  rw [decodeArrival, hkind, if_neg (by decide), hlink, htag, hlength, hs, ht, hflag]
  cases pcv <;> rfl

theorem decodeArrival_encode_unknown {a : UnknownArrival} (hknown : knownArrivalKind a.kind = false) :
    decodeArrival (encodeArrival (.unknown a)).1 (encodeArrival (.unknown a)).2 = some (.unknown a) := by
  obtain ⟨kind, link, tag⟩ := a
  obtain ⟨hkind, hlink, -, -, htag⟩ := headerFields_of_low (kind := kind) (link := link) (flag := false) (len := 0)
    (tag := tag) (h := (encodeArrival (.unknown ⟨kind, link, tag⟩)).1) (by
      rw [encodeArrival, extractLsb'_append_low, BitVec.extractLsb'_eq_self]; decide)
  simp only [knownArrivalKind, Bool.or_eq_false_iff, beq_eq_false_iff_ne] at hknown
  obtain ⟨⟨hsegment, hcheck⟩, htrailer⟩ := hknown
  have hdecode := Machine.decodeArrival_unknown (h := (encodeArrival (.unknown ⟨kind, link, tag⟩)).1)
    (by rwa [hkind]) (by rwa [hkind]) (by rwa [hkind])
  rwa [hkind, hlink, htag] at hdecode

theorem decodeArrival_encodeArrival (a : Arrival) (h : a.wellFormed = true) :
    decodeArrival (encodeArrival a).1 (encodeArrival a).2 = some a := by
  cases a with
  | segment a => exact decodeArrival_segment (by simpa [Arrival.wellFormed] using h)
  | check a => exact decodeArrival_check a
  | trailer a => exact decodeArrival_trailer a
  | unknown a => exact decodeArrival_encode_unknown (by simpa [Arrival.wellFormed] using h)

/-! ## Command records (section 12.3) -/

theorem decodeCommand_encodeCommand (c : CommandRecord) (h : c.wellFormed = true) :
    decodeCommand (encodeCommand c).1 (encodeCommand c).2 = some c := by
  obtain ⟨code, tag, args⟩ := c
  have hlen : args.length ≤ 255 := by simpa [CommandRecord.wellFormed] using h
  have htag : recordField (encodeCommand ⟨code, tag, args⟩).1 4 2 = tag := extractLsb'_append_middle _ tag _
  have hcount : recordField (encodeCommand ⟨code, tag, args⟩).1 2 1 = BitVec.ofNat 8 args.length := by
    rw [recordField, encodeCommand, extractLsb'_append_low _ _ (by decide), extractLsb'_append_low _ _ (by decide)]
    exact extractLsb'_append_middle _ (BitVec.ofNat 8 args.length) _
  have hcode : recordField (encodeCommand ⟨code, tag, args⟩).1 0 2 = code := by
    rw [recordField, encodeCommand, extractLsb'_append_low, extractLsb'_append_low, extractLsb'_append_low,
      extractLsb'_append_low] <;> simp
  rw [decodeCommand, htag, hcode, hcount, BitVec.toNat_ofNat]
  exact if_pos (Nat.mod_eq_of_lt (Nat.lt_succ_of_le hlen)).symm

/-! ## Drain requests (section 12.2) -/

/-- The fields of the first eight bytes of a drain request. -/
structure RequestFields (r : BitVec 128) (kind byte1 count : Byte) (h : Handle) : Prop where
  kind : recordField r 0 1 = kind
  byte1 : recordField r 1 1 = byte1
  count : recordField r 2 1 = count
  handle : h.wellFormed = true → requestHandle r = h

theorem requestFields_of_low {r : BitVec 128} {kind byte1 count : Byte} {h : Handle}
    (hlow : r.extractLsb' 0 64 = requestBits kind byte1 count h) : RequestFields r kind byte1 count h where
  kind := by
    rw [recordField, extractLsb'_low (n := 64) r (by decide), hlow, requestBits, extractLsb'_append_low,
      extractLsb'_append_low, extractLsb'_append_low, extractLsb'_append_low, extractLsb'_append_low,
      extractLsb'_append_low, extractLsb'_append_low] <;> simp
  byte1 := by
    rw [recordField, extractLsb'_low (n := 64) r (by decide), hlow, requestBits, extractLsb'_append_low _ _ (by decide),
      extractLsb'_append_low _ _ (by decide), extractLsb'_append_low _ _ (by decide),
      extractLsb'_append_low _ _ (by decide), extractLsb'_append_low _ _ (by decide)]
    exact extractLsb'_append_middle _ byte1 _
  count := by
    rw [recordField, extractLsb'_low (n := 64) r (by decide), hlow, requestBits, extractLsb'_append_low _ _ (by decide),
      extractLsb'_append_low _ _ (by decide), extractLsb'_append_low _ _ (by decide),
      extractLsb'_append_low _ _ (by decide)]
    exact extractLsb'_append_middle _ count _
  handle hwf := by
    have hslot : r.extractLsb' 32 12 = BitVec.ofNat 12 h.slot := by
      rw [extractLsb'_low (n := 64) r (by decide), hlow, requestBits, extractLsb'_append_low _ _ (by decide),
        extractLsb'_append_low _ _ (by decide)]
      exact extractLsb'_append_middle _ (BitVec.ofNat 12 h.slot) _
    have hgen : recordField r 6 1 = h.gen := by
      rw [recordField, extractLsb'_low (n := 64) r (by decide), hlow, requestBits]
      exact extractLsb'_append_middle _ h.gen _
    have hlt : h.slot < 4096 := by simpa [Handle.wellFormed] using hwf
    rw [requestHandle, hslot, hgen, BitVec.toNat_ofNat, Nat.mod_eq_of_lt hlt]

/-- A request whose bytes 8 to 15 are reserved. -/
theorem requestFields_short (kind byte1 count : Byte) (h : Handle) :
    RequestFields ((0 : BitVec 64) ++ requestBits kind byte1 count h) kind byte1 count h := by
  refine requestFields_of_low ?_
  rw [extractLsb'_append_low, BitVec.extractLsb'_eq_self]
  decide

theorem decodeRequest_readReady (q : Fin 4) (count : BitVec 8) :
    decodeRequest ((0 : BitVec 64) ++ requestBits 0x01 ((0 : BitVec 6) ++ fin4Bits q : BitVec 8) count noHandle) =
      .readReady q count := by
  obtain ⟨hkind, hbyte, hcount, -⟩ := requestFields_short 0x01 ((0 : BitVec 6) ++ fin4Bits q : BitVec 8) count noHandle
  have hq : BitVec.extractLsb' 8 2 ((0 : BitVec 64) ++
      requestBits 0x01 ((0 : BitVec 6) ++ fin4Bits q : BitVec 8) count noHandle) = fin4Bits q := by
    refine (extractLsb'_within (n := 8) (off := 0) _ 8 (by decide)).trans ?_
    rw [show BitVec.extractLsb' 8 8 _ = _ from hbyte, extractLsb'_append_low _ _ (by decide), BitVec.extractLsb'_eq_self]
  rw [decodeRequest, if_pos hkind, hcount, hq, bitsFin4_fin4Bits]

theorem decodeRequest_release {h : Handle} (hwf : h.wellFormed = true) (outcome : StoreOutcome) :
    decodeRequest ((0 : BitVec 64) ++
      requestBits 0x04 ((0 : BitVec 7) ++ BitVec.ofBool (outcomeBit outcome) : BitVec 8) 0 h) = .release h outcome := by
  obtain ⟨hkind, hbyte, -, hhandle⟩ := requestFields_short 0x04
    ((0 : BitVec 7) ++ BitVec.ofBool (outcomeBit outcome) : BitVec 8) 0 h
  have hbit := getLsbD_within (n := 8) (i := 0)
    ((0 : BitVec 64) ++ requestBits 0x04 ((0 : BitVec 7) ++ BitVec.ofBool (outcomeBit outcome) : BitVec 8) 0 h) 8
    (by decide)
  rw [show BitVec.extractLsb' 8 8 _ = _ from hbyte] at hbit
  rw [decodeRequest, hkind, if_neg (by decide), if_neg (by decide), if_neg (by decide), if_pos rfl, hhandle hwf, hbit]
  cases outcome <;> rfl

theorem decodeRequest_readData {h : Handle} (hwf : h.wellFormed = true) (offset : Word) (length : BitVec 17) :
    decodeRequest (((0 : BitVec 15) ++ (length ++ (offset ++ requestBits 0x03 0 0 h : BitVec 96) : BitVec 113) :
      BitVec 128)) = .readData h offset length := by
  have hfields : RequestFields (((0 : BitVec 15) ++ (length ++ (offset ++ requestBits 0x03 0 0 h : BitVec 96) :
      BitVec 113) : BitVec 128)) 0x03 0 0 h := by
    refine requestFields_of_low ?_
    rw [extractLsb'_append_low, extractLsb'_append_low, extractLsb'_append_low, BitVec.extractLsb'_eq_self] <;> decide
  have hlength : (((0 : BitVec 15) ++ (length ++ (offset ++ requestBits 0x03 0 0 h : BitVec 96) : BitVec 113) :
      BitVec 128)).extractLsb' 96 17 = length := extractLsb'_append_middle _ length _
  have hoffset : recordField (((0 : BitVec 15) ++ (length ++ (offset ++ requestBits 0x03 0 0 h : BitVec 96) : BitVec 113) :
      BitVec 128)) 8 4 = offset := by
    rw [recordField, extractLsb'_append_low _ _ (by decide)]
    exact extractLsb'_append_middle _ offset _
  obtain ⟨hkind, -, -, hhandle⟩ := hfields
  rw [decodeRequest, hkind, if_neg (by decide), if_neg (by decide), if_pos rfl, hhandle hwf, hoffset, hlength]

theorem decodeRequest_unknownRequest {kind : Byte} (hknown : knownRequestKind kind = false) :
    decodeRequest ((0 : BitVec 64) ++ requestBits kind 0 0 noHandle) = .unknownRequest kind := by
  obtain ⟨hkind, -, -, -⟩ := requestFields_short kind 0 0 noHandle
  simp only [knownRequestKind, Bool.or_eq_false_iff, beq_eq_false_iff_ne] at hknown
  obtain ⟨⟨⟨⟨h1, h2⟩, h3⟩, h4⟩, h5⟩ := hknown
  rw [decodeRequest, hkind, if_neg h1, if_neg h2, if_neg h3, if_neg h4, if_neg h5]

theorem decodeRequest_encodeRequest (i : Instr) (r : BitVec 128) (hwf : i.wellFormed = true)
    (hr : encodeRequest i = some r) : decodeRequest r = i := by
  cases i
  case readReady q count =>
    cases hr
    exact decodeRequest_readReady q count
  case chainRead count =>
    cases hr
    obtain ⟨hkind, -, hcount, -⟩ := requestFields_short 0x02 0 count noHandle
    rw [decodeRequest, hkind, if_neg (by decide), if_pos rfl, hcount]
  case readData h offset length =>
    cases hr
    exact decodeRequest_readData hwf offset length
  case release h outcome =>
    cases hr
    exact decodeRequest_release hwf outcome
  case drainStatusRequest =>
    cases hr
    obtain ⟨hkind, -, -, -⟩ := requestFields_short 0x05 0 0 noHandle
    rw [decodeRequest, hkind]
    rfl
  case unknownRequest kind =>
    cases hr
    exact decodeRequest_unknownRequest (by simpa [Instr.wellFormed] using hwf)
  all_goals cases hr

end Sys2Proof

namespace Sys2Proof.Machine

/-- Settles O60, kind by kind: `decodeArrival_encodeArrival`, `decodeCommand_encodeCommand` and
`decodeRequest_encodeRequest`. -/
theorem portRecordsRoundTrip : Obligations.PortRecordsRoundTrip :=
  ⟨⟨decodeArrival_encodeArrival, decodeCommand_encodeCommand⟩, decodeRequest_encodeRequest⟩

end Sys2Proof.Machine
end


section
/-! PROOFS. The TRAILER arrival (spec/02, section 2.6) and the learning of L (spec/01, section 1.6); statements O11 and O12. -/
namespace Sys2Proof.Machine

/-! ## The tests of a TRAILER (R24, R49) -/

/-- The four tests of R24 (R23). -/
theorem lengthConflict_iff (s : State) (i : Nat) (x : Context) (l : Nat) :
    lengthConflict s i x l = true ↔
      (∃ y ∈ recordsOf s i, ∃ g ∈ y.2.ranges, l < y.2.index * extentBytes s.extentSize + g.2) ∨
        l < x.edge * extentBytes s.extentSize ∨
        (∃ y ∈ recordsOf s i, extentCount (extentBytes s.extentSize) l ≤ y.2.index) ∨
        ∃ k, winGet x k = .sealed ∧ l < (k + 1) * extentBytes s.extentSize := by
  have hwindow : (∃ p < 64, winGet x (x.edge + p) = .sealed ∧ l < (x.edge + p + 1) * extentBytes s.extentSize) ↔
      ∃ k, winGet x k = .sealed ∧ l < (k + 1) * extentBytes s.extentSize := by
    constructor
    · rintro ⟨p, -, hp⟩
      exact ⟨_, hp⟩
    · rintro ⟨k, hk, hl⟩
      obtain ⟨hlo, hhi⟩ := in_window_of_winGet (by simp [hk] : winGet x k ≠ .absent)
      obtain ⟨p, rfl⟩ := Nat.exists_eq_add_of_le hlo
      exact ⟨p, Nat.lt_of_add_lt_add_left hhi, hk, hl⟩
  rw [← hwindow]
  simp only [lengthConflict, Bool.or_eq_true, List.any_eq_true, decide_eq_true_eq, Bool.and_eq_true, beq_iff_eq,
    List.mem_range, or_assoc]

theorem trailerPcvBad_iff (a : TrailerArrival) :
    trailerPcvBad a = true ↔
      ∃ u v, a.pcv = some (u, v) ∧ (Config.modulus ≤ u.toNat ∨ Config.modulus ≤ v.toNat) := by
  cases hp : a.pcv with
  | none => simp [trailerPcvBad, hp]
  | some p =>
    simp only [trailerPcvBad, hp, Bool.not_eq_true', pcvValid_eq_false_iff]
    exact ⟨fun h => ⟨_, _, rfl, h⟩, by rintro ⟨u, v, h, hbad⟩; cases h; exact hbad⟩

theorem trailerLengthBad_iff (s : State) (i : Nat) (x : Context) (l : Nat) :
    trailerLengthBad s i x l = true ↔
      (∃ m, x.length = some m ∧ m ≠ l) ∨ (x.length = none ∧ lengthConflict s i x l = true) := by
  cases hl : x.length <;> simp [trailerLengthBad, hl]

theorem trailerPcvDiffers_iff (a : TrailerArrival) (x : Context) :
    trailerPcvDiffers a x = true ↔
      ∃ u v w, a.pcv = some (u, v) ∧ x.expected = some w ∧ w ≠ pcvOfWords u v := by
  cases hp : a.pcv with
  | none => simp [trailerPcvDiffers, hp]
  | some p =>
    cases hv : x.expected with
    | none => simp [trailerPcvDiffers, hp, hv]
    | some w =>
      simp only [trailerPcvDiffers, hp, hv, decide_eq_true_eq]
      exact ⟨fun h => ⟨_, _, _, rfl, rfl, Ne.symm h⟩, by rintro ⟨u, v, w, hp, hw, h⟩; cases hp; cases hw; exact Ne.symm h⟩

/-! ## The answers of a TRAILER (R38, R49) -/

section
variable {s : State} {a : TrailerArrival} {rest : List Arrival} (h : AtHead s (.trailer a) rest)
include h

theorem exec_trailer_atHead : exec .trailer s = .next (handleTrailer { s with inputQueue := rest } a) := execTrailer_atHead h

theorem exec_trailer_unmapped (hl : lookupTag s a.tag = none) :
    exec .trailer s = .next (answeredUnknown s rest a.link a.tag) := by
  rw [exec_trailer_atHead h, handleTrailer, countLink_arrival]
  simp only [lookupTag_withPorts, hl]
  rw [← countLink_arrival, refuseUnknownStream_eq]

variable {i : Nat} {x : Context} (hl : lookupTag s a.tag = some (i, x))
include hl

theorem exec_trailer_failed (hst : x.state = .failed ∨ x.state = .withdrawing) :
    exec .trailer s = .next (turnedAway s rest a.link a.tag i x .streamFailed) := by
  rw [exec_trailer_atHead h, handleTrailer, countLink_arrival]
  simp only [lookupTag_withPorts, hl, if_pos hst]
  rw [← countLink_arrival, refuseArrival_eq (ctxOf_of_lookupTag hl)]

variable (hst : ¬ (x.state = .failed ∨ x.state = .withdrawing))
include hst

theorem exec_trailer_refused {code : DispCode} (hcode : trailerCode s i x a = some code) (hlate : code ≠ .late)
    (hdup : code ≠ .duplicate) : exec .trailer s = .next (turnedAway s rest a.link a.tag i x code) := by
  have hcode' : trailerCode (withPorts s (arrivedPorts s rest a.link)) i x a = some code := hcode
  rw [exec_trailer_atHead h, handleTrailer, countLink_arrival]
  simp only [lookupTag_withPorts, hl, if_neg hst, hcode']
  rw [← countLink_arrival, refuseArrival_eq (ctxOf_of_lookupTag hl)]

theorem exec_trailer_answered {code : DispCode} (hcode : trailerCode s i x a = some code)
    (hanswer : code = .late ∨ code = .duplicate) :
    exec .trailer s = .next (answeredOnly s rest a.link a.tag i x code) := by
  have hcode' : trailerCode (withPorts s (arrivedPorts s rest a.link)) i x a = some code := hcode
  rw [exec_trailer_atHead h, handleTrailer, countLink_arrival]
  rcases hanswer with rfl | rfl <;> simp only [lookupTag_withPorts, hl, if_neg hst, hcode'] <;>
    rw [← countLink_arrival, admitAnswer_eq (ctxOf_of_lookupTag hl)]

theorem exec_trailer_accepted (hcode : trailerCode s i x a = none) :
    exec .trailer s =
      .next (admitAnswer (withPorts (trailerEffects s i x a) (arrivedPorts s rest a.link)) i a.tag .accepted) := by
  have hcode' : trailerCode (withPorts s (arrivedPorts s rest a.link)) i x a = none := hcode
  rw [exec_trailer_atHead h, handleTrailer, countLink_arrival]
  simp only [lookupTag_withPorts, hl, if_neg hst, hcode', trailerEffects_withPorts]

end

/-- Settles O11, by the stream's state and the steps of `trailerCode`; the tests of R24 are `lengthConflict_iff`. -/
theorem trailerAnswers : Obligations.TrailerAnswers := by
  unfold Obligations.TrailerAnswers
  refine ⟨fun s a rest h => ⟨exec_trailer_unmapped h, ?_⟩, fun s i x l => lengthConflict_iff s i x l⟩
  intro i x hl refused answered l badValue badLength differs
  refine ⟨exec_trailer_failed h hl, fun hfailed hwithdrawing => ?_⟩
  have hst : ¬ (x.state = .failed ∨ x.state = .withdrawing) := by simp [hfailed, hwithdrawing]
  refine ⟨fun hlong => ?_, fun hshort => ?_⟩
  · exact exec_trailer_refused h hl hst (if_pos hlong) (by decide) (by decide)
  have hcode := trailerCode.eq_1 s i x a
  rw [if_neg (show ¬ Config.maxObject < l from hshort.not_gt)] at hcode
  refine ⟨fun hbad => ?_, fun hvalue => ?_⟩
  · rw [if_pos ((trailerPcvBad_iff a).2 hbad)] at hcode
    exact exec_trailer_refused h hl hst hcode (by decide) (by decide)
  rw [if_neg (mt (trailerPcvBad_iff a).1 hvalue)] at hcode
  refine ⟨fun hbad => ?_, fun hlength => ?_⟩
  · rw [if_pos ((trailerLengthBad_iff s i x l).2 hbad)] at hcode
    exact exec_trailer_refused h hl hst hcode (by decide) (by decide)
  rw [if_neg (mt (trailerLengthBad_iff s i x l).1 hlength)] at hcode
  refine ⟨fun hbad => ?_, fun hsame => ?_⟩
  · rw [if_pos ((trailerPcvDiffers_iff a x).2 hbad)] at hcode
    exact exec_trailer_refused h hl hst hcode (by decide) (by decide)
  rw [if_neg (mt (trailerPcvDiffers_iff a x).1 hsame)] at hcode
  refine ⟨fun hdone hvalue hnone => ?_, fun hknown hvalue => ?_⟩
  · rw [if_pos ⟨hdone, Option.isSome_iff_ne_none.2 hvalue, Option.isNone_iff_eq_none.2 hnone⟩] at hcode
    exact exec_trailer_answered h hl hst hcode (.inl rfl)
  · rw [if_neg, if_pos] at hcode
    · exact exec_trailer_answered h hl hst hcode (.inr rfl)
    · exact ⟨by rw [hknown]; rfl, hvalue.imp Option.isNone_iff_eq_none.2 Option.isSome_iff_ne_none.2⟩
    · rintro ⟨-, hsome, hnone⟩
      rcases hvalue with h | h
      · simp [h] at hsome
      · exact h (Option.isNone_iff_eq_none.1 hnone)

theorem setCtx_self {s : State} (hw : tabWf s.contexts = true) {i : Nat} {c : Context} (hc : ctxOf s i = some c) :
    setCtx s i c = s := by
  rw [setCtx, tabSet_self hw hc]

/-! ## An accepted arrival -/

/-- The next state of an accepted arrival whose work on the held work is `w`. -/
theorem accepted_eq {s w t : State} (h : HeldWork s w) {rest : List Arrival} {link : Fin 4} {tag : Word} {i : Nat}
    (ht : t = admitAnswer (withPorts w (arrivedPorts s rest link)) i tag .accepted) :
    t =
      { w with
        inputQueue := rest
        links := s.links.set link (arrived s link)
        disposition := some { code := .accepted, tag := tag, newBytes := 0, hole := firstHoleOf t i } } := by
  obtain ⟨⟨hdisposition, hqueue, hlinks⟩, hbefore⟩ := accepted_spec h ht
  have heta : t =
      { { t with inputQueue := s.inputQueue, links := s.links, disposition := s.disposition } with
        inputQueue := t.inputQueue
        links := t.links
        disposition := t.disposition } := rfl
  rwa [hbefore, hqueue, hlinks, hdisposition] at heta

/-! ## The learning of L (R26) -/

theorem findUnsealed_eq_none_iff (s : State) (i k : Nat) :
    findUnsealed s i k = none ↔
      ∀ y ∈ recordsOf s i, ¬ (y.2.index = k ∧ (y.2.state = .filling ∨ y.2.state = .awaitCheck)) := by
  simp only [findUnsealed, recordsOf, Option.map_eq_none_iff, List.find?_eq_none, List.mem_filter, Bool.and_eq_true,
    beq_iff_eq, unsealed_eq_true_iff, and_imp, and_assoc, not_and]

theorem mem_recordsOf_findUnsealed {s : State} {i k slot : Nat} (h : findUnsealed s i k = some slot) :
    ∃ r, (slot, r) ∈ recordsOf s i ∧ r.index = k ∧ (r.state = .filling ∨ r.state = .awaitCheck) := by
  rw [findUnsealed, Option.map_eq_some_iff] at h
  obtain ⟨y, hy, rfl⟩ := h
  have hprop := List.find?_some hy
  simp only [Bool.and_eq_true, beq_iff_eq] at hprop
  obtain ⟨⟨hstream, hindex⟩, hunsealed⟩ := hprop
  exact ⟨y.2, List.mem_filter.2 ⟨List.mem_of_find?_eq_some hy, beq_iff_eq.2 hstream⟩, hindex,
    (unsealed_eq_true_iff _).1 hunsealed⟩

theorem routeLast_of_shorter {s : State} {i l slot : Nat} (hpos : 0 < extentCount (extentBytes s.extentSize) l)
    (hshort : l - (extentCount (extentBytes s.extentSize) l - 1) * extentBytes s.extentSize < extentBytes s.extentSize)
    (hslot : findUnsealed s i (extentCount (extentBytes s.extentSize) l - 1) = some slot) :
    routeLast s i l = routeComplete s slot := by
  rw [routeLast, if_pos ⟨hpos, hshort⟩, hslot]

theorem routeLast_of_whole {s : State} {i l : Nat}
    (h : extentCount (extentBytes s.extentSize) l = 0 ∨
      extentBytes s.extentSize ≤ l - (extentCount (extentBytes s.extentSize) l - 1) * extentBytes s.extentSize ∨
      findUnsealed s i (extentCount (extentBytes s.extentSize) l - 1) = none) : routeLast s i l = s := by
  rw [routeLast]
  split
  · next hcond =>
    have hnone := (h.resolve_left hcond.1.ne').resolve_left hcond.2.not_ge
    rw [hnone]
  · rfl

/-- The equations of the learning of L, by the record of the last extent. -/
theorem learnLength_cases {s : State} {i : Nat} {x : Context} (l : Nat) (hx : ctxOf s i = some x) (hopen : x.state = .opened) :
    (∀ slot, 0 < extentCount (extentBytes s.extentSize) l →
      l - (extentCount (extentBytes s.extentSize) l - 1) * extentBytes s.extentSize < extentBytes s.extentSize →
      findUnsealed s i (extentCount (extentBytes s.extentSize) l - 1) = some slot →
      learnLength s i l =
        evalDone (routeComplete (setCtx s i { x with length := some l, state := .ending }) slot) i) ∧
    ((extentCount (extentBytes s.extentSize) l = 0 ∨
        extentBytes s.extentSize ≤ l - (extentCount (extentBytes s.extentSize) l - 1) * extentBytes s.extentSize ∨
        findUnsealed s i (extentCount (extentBytes s.extentSize) l - 1) = none) →
      learnLength s i l = evalDone (setCtx s i { x with length := some l, state := .ending }) i) := by
  rw [learnLength_of_opened hx hopen]
  refine ⟨fun slot hpos hshort hslot => ?_, fun h => ?_⟩
  · exact congrArg (fun u => evalDone u i) (routeLast_of_shorter
      (s := setCtx s i { x with length := some l, state := .ending }) hpos hshort hslot)
  · exact congrArg (fun u => evalDone u i) (routeLast_of_whole
      (s := setCtx s i { x with length := some l, state := .ending }) h)

/-! ## A TRAILER of an OPEN stream (R50) -/

/-- Whether a TRAILER brings the stream a value that it does not hold. -/
def trailerStores (a : TrailerArrival) (x : Context) : Bool := a.pcv.isSome && x.expected.isNone

/-- The expected object value of the stream after step 1 of R50. -/
def trailerValue (a : TrailerArrival) (x : Context) : Option Pcv :=
  if trailerStores a x = true then a.pcv.map (fun p => pcvOfWords p.1 p.2) else x.expected

section
variable {s : State} {i : Nat} {x : Context} (hx : ctxOf s i = some x) (hopen : x.state = .opened) (a : TrailerArrival)
include hx hopen

theorem trailerStore_of_stores (hstores : trailerStores a x = true) :
    trailerStore s i x a = setCtx s i { x with expected := trailerValue a x } := by
  have hvalue := hstores
  rw [trailerStores, Bool.and_eq_true] at hvalue
  obtain ⟨hsome, hnone⟩ := hvalue
  obtain ⟨⟨u, v⟩, hp⟩ := Option.isSome_iff_exists.1 hsome
  rw [trailerValue, if_pos hstores, trailerStore, hp]
  simp only [if_pos hnone, Option.map_some]
  rw [storeObjectCheck_eq hx]
  exact evalDone_of_opened (c := { x with expected := some (pcvOfWords u v) }) (ctxOf_setCtx_same ..) hopen

omit hx hopen in
theorem trailerStore_of_not_stores (hstores : ¬ trailerStores a x = true) : trailerStore s i x a = s := by
  cases hp : a.pcv with
  | none => rw [trailerStore, hp]
  | some p =>
    have hnone : ¬ x.expected.isNone = true := fun h => hstores (by rw [trailerStores, hp, h]; rfl)
    rw [trailerStore, hp]
    exact if_neg hnone

/-- The stream learns L with the value it holds then. -/
theorem learnLength_trailerStore (l : Nat) :
    learnLength (trailerStore s i x a) i l = learnLength (setCtx s i { x with expected := trailerValue a x }) i l := by
  by_cases hstores : trailerStores a x = true
  · rw [trailerStore_of_stores hx hopen a hstores]
  · have hctx : ctxOf (setCtx s i x) i = some x := ctxOf_setCtx_same ..
    rw [trailerStore_of_not_stores a hstores, trailerValue, if_neg hstores, learnLength_of_opened hx hopen,
      learnLength_of_opened hctx hopen, setCtx_setCtx]

variable (hnone : x.length = none)
include hnone

theorem trailerEffects_of_opened :
    trailerEffects s i x a =
      if trailerStores a x = true then
        restartTimer (learnLength (setCtx s i { x with expected := trailerValue a x }) i a.length.toNat) i
      else learnLength (setCtx s i { x with expected := trailerValue a x }) i a.length.toNat := by
  rw [← learnLength_trailerStore hx hopen]
  simp only [trailerEffects, hnone, Option.isNone_none, if_true]
  rfl

/-- An admitted TRAILER leaves a context, from which the restart of the timer is read. -/
theorem trailerEffects_of_opened_context (hw : TablesWf s) :
    ∃ z, ctxOf (learnLength (setCtx s i { x with expected := trailerValue a x }) i a.length.toNat) i = some z ∧
      trailerEffects s i x a =
        setCtx (learnLength (setCtx s i { x with expected := trailerValue a x }) i a.length.toNat) i
          (if trailerStores a x = true ∧ (z.state = .opened ∨ z.state = .ending) then
            { z with count := 0, phase := startPhase z.compareA z.compareB }
          else z) := by
  have hset : TablesWf (setCtx s i { x with expected := trailerValue a x }) :=
    ⟨tabWf_tabSet hw.contexts .., hw.extents⟩
  have hevent := streamEvent_learnLength (l := a.length.toNat) hset (ctxOf_setCtx_same ..) hopen
  obtain ⟨z, hz, -⟩ := hevent.context _ (ctxOf_setCtx_same ..)
  refine ⟨z, hz, ?_⟩
  rw [trailerEffects_of_opened hx hopen a hnone]
  by_cases hstores : trailerStores a x = true
  · rw [if_pos hstores, restartTimer_eq hz]
    simp only [hstores, true_and, running_eq_true_iff]
  · rw [if_neg hstores, if_neg (fun h => hstores h.1), setCtx_self hevent.tables.contexts hz]

omit hnone in
/-- Below N extents retired, and without an unsealed record of the last extent, the stream just enters ENDING. -/
theorem learnLength_enters_ending {l : Nat} (hbelow : x.edge < extentCount (extentBytes s.extentSize) l)
    (hlast : findUnsealed s i (extentCount (extentBytes s.extentSize) l - 1) = none) :
    learnLength s i l = setCtx s i { x with length := some l, state := .ending } := by
  have hctx : ctxOf (setCtx s i { x with length := some l, state := .ending }) i =
    some { x with length := some l, state := .ending } := ctxOf_setCtx_same ..
  rw [(learnLength_cases l hx hopen).2 (.inr (.inr hlast))]
  by_cases hv : x.expected = none
  · exact (evalDone_of_no_value hctx rfl rfl hv).trans (if_pos (.inl hbelow))
  · obtain ⟨v, hv⟩ := Option.ne_none_iff_exists'.1 hv
    exact (evalDone_of_expected hctx rfl rfl hv).trans (if_pos hbelow)

end

/-- The steps of R49 let pass a TRAILER whose value and length agree with what the stream holds. -/
theorem trailerCode_of_agrees {s : State} {i : Nat} {x : Context} {a : TrailerArrival} (hshort : a.length.toNat ≤ 2 ^ 44)
    (hvalue : ∀ u v, a.pcv = some (u, v) → u.toNat < Config.modulus ∧ v.toNat < Config.modulus ∧
      ∀ w, x.expected = some w → w = pcvOfWords u v)
    (hlength : trailerLengthBad s i x a.length.toNat = false) (hdone : x.state ≠ .done)
    (hnew : x.length = none ∨ (a.pcv.isSome = true ∧ x.expected = none)) : trailerCode s i x a = none := by
  have hbad : ¬ trailerPcvBad a = true := by
    rw [trailerPcvBad_iff]
    rintro ⟨u, v, hp, hge⟩
    obtain ⟨hu, hv, -⟩ := hvalue u v hp
    omega
  have hdiffers : ¬ trailerPcvDiffers a x = true := by
    rw [trailerPcvDiffers_iff]
    rintro ⟨u, v, w, hp, hw, hne⟩
    exact hne ((hvalue u v hp).2.2 w hw)
  rw [trailerCode, if_neg (show ¬ Config.maxObject < a.length.toNat from hshort.not_gt), if_neg hbad, hlength,
    if_neg Bool.false_ne_true, if_neg hdiffers, if_neg (fun h => hdone h.1), if_neg]
  rintro ⟨hknown, hheld⟩
  rcases hnew with hnew | ⟨hsome, hnone⟩
  · simp [hnew] at hknown
  · simp [hnone, Option.isSome_iff_ne_none.1 hsome] at hheld

/-! ## An admitted TRAILER -/

section
variable {s : State} {a : TrailerArrival} {rest : List Arrival} {i : Nat} {x : Context} (h : AtHead s (.trailer a) rest)
  (hl : lookupTag s a.tag = some (i, x)) (hopen : x.state = .opened) (hnone : x.length = none)
  (hshort : a.length.toNat ≤ 2 ^ 44)
  (hvalue : ∀ u v, a.pcv = some (u, v) → u.toNat < Config.modulus ∧ v.toNat < Config.modulus ∧
    ∀ w, x.expected = some w → w = pcvOfWords u v)
  (hconflict : lengthConflict s i x a.length.toNat = false)
include h hl hopen hnone hshort hvalue hconflict

theorem exec_trailer_opened {w t : State} (hw : trailerEffects s i x a = w)
    (ht : t = admitAnswer (withPorts w (arrivedPorts s rest a.link)) i a.tag .accepted) :
    exec .trailer s = .next t ∧
      t =
        { w with
          inputQueue := rest
          links := s.links.set a.link (arrived s a.link)
          disposition := some { code := .accepted, tag := a.tag, newBytes := 0, hole := firstHoleOf t i } } := by
  have hlength : trailerLengthBad s i x a.length.toNat = false := by rw [trailerLengthBad, hnone]; exact hconflict
  have hcode := trailerCode_of_agrees hshort hvalue hlength (by simp [hopen]) (.inl hnone)
  subst hw
  exact ⟨ht ▸ exec_trailer_accepted h hl (by simp [hopen]) hcode, accepted_eq (heldWork_trailerEffects ..) ht⟩

/-- The stream enters ENDING with its L, and nothing seals or fails with it. -/
theorem exec_trailer_enters_ending (hbelow : x.edge < extentCount (extentBytes s.extentSize) a.length.toNat)
    (hlast : findUnsealed s i (extentCount (extentBytes s.extentSize) a.length.toNat - 1) = none) :
    ∃ t, exec .trailer s = .next t ∧
      t =
        { s with
          inputQueue := rest
          links := s.links.set a.link (arrived s a.link)
          contexts :=
            tabSet s.contexts i
              { x with
                state := .ending
                length := some a.length.toNat
                expected := trailerValue a x
                count := if trailerStores a x = true then 0 else x.count
                phase := if trailerStores a x = true then startPhase x.compareA x.compareB else x.phase }
          disposition := some { code := .accepted, tag := a.tag, newBytes := 0, hole := firstHoleOf t i } } := by
  have hx := ctxOf_of_lookupTag hl
  have hlearns := learnLength_enters_ending (s := setCtx s i { x with expected := trailerValue a x })
    (ctxOf_setCtx_same ..) hopen hbelow hlast
  have hw : trailerEffects s i x a =
      setCtx s i
        { x with
          state := .ending
          length := some a.length.toNat
          expected := trailerValue a x
          count := if trailerStores a x = true then 0 else x.count
          phase := if trailerStores a x = true then startPhase x.compareA x.compareB else x.phase } := by
    rw [trailerEffects_of_opened hx hopen a hnone, hlearns, setCtx_setCtx]
    split
    · rw [restartTimer_setCtx]
      rfl
    · rfl
  obtain ⟨hexec, ht⟩ := exec_trailer_opened h hl hopen hnone hshort hvalue hconflict hw rfl
  exact ⟨_, hexec, ht⟩

end

/-- A TRAILER that brings a stream in ENDING its value (R50). -/
theorem exec_trailer_ending {s : State} {a : TrailerArrival} {rest : List Arrival} {i l : Nat} {x : Context} {u v : Word}
    (h : AtHead s (.trailer a) rest) (hl : lookupTag s a.tag = some (i, x)) (hending : x.state = .ending)
    (hlength : x.length = some l) (hagrees : a.length.toNat = l) (hshort : l ≤ 2 ^ 44) (hp : a.pcv = some (u, v))
    (hu : u.toNat < Config.modulus) (hv : v.toNat < Config.modulus) (hnone : x.expected = none) {w t : State}
    (hw : restartTimer (storeObjectCheck s i (pcvOfWords u v)) i = w)
    (ht : t = admitAnswer (withPorts w (arrivedPorts s rest a.link)) i a.tag .accepted) :
    exec .trailer s = .next t ∧ HeldWork s w := by
  have hlengthBad : trailerLengthBad s i x a.length.toNat = false := by
    rw [trailerLengthBad, hlength]
    simp [hagrees]
  have hcode := trailerCode_of_agrees (s := s) (i := i) (x := x) (a := a) (by rw [hagrees]; exact hshort)
    (by
      intro u' v' hp'
      rw [hp] at hp'
      cases hp'
      exact ⟨hu, hv, fun w hw => by simp [hnone] at hw⟩)
    hlengthBad (by simp [hending]) (.inr ⟨by rw [hp]; rfl, hnone⟩)
  have heffects : trailerEffects s i x a = w := by
    rw [← hw]
    simp [trailerEffects, trailerStore, hp, hnone, hlength]
  subst heffects
  exact ⟨ht ▸ exec_trailer_accepted h hl (by simp [hending]) hcode, heldWork_trailerEffects ..⟩

/-- Settles O12: the OPEN stream by `exec_trailer_opened`, the one in ENDING by `exec_trailer_ending`, and the learning of L by
`learnLength_cases`. -/
theorem trailerLearnsLength : Obligations.TrailerLearnsLength := by
  unfold Obligations.TrailerLearnsLength
  refine ⟨⟨?_, ?_⟩, ?_, ?_⟩
  · intro s a rest i x h hl hopen hnone hshort hvalue hconflict hbelow hlast stored
    exact exec_trailer_enters_ending h hl hopen hnone hshort hvalue hconflict hbelow hlast
  · intro s a rest i x h hpool hl hopen hnone hshort hvalue hconflict stored given
    obtain ⟨z, hz, heffects⟩ := trailerEffects_of_opened_context (ctxOf_of_lookupTag hl) hopen a hnone hpool.1.tablesWf
    obtain ⟨hexec, ht⟩ := exec_trailer_opened h hl hopen hnone hshort hvalue hconflict heffects rfl
    exact ⟨_, z, _, rfl, hz, hexec, ht⟩
  · intro s a rest i x u v l h hpool hl hending hlength hagrees hshort hp hu hv hnone n given ends
    have hx := ctxOf_of_lookupTag hl
    have hends {d : Context} (hw : restartTimer (storeObjectCheck s i given) i = setCtx s i d) : ∃ t, ends t d := by
      obtain ⟨hexec, hwork⟩ := exec_trailer_ending h hl hending hlength hagrees hshort hp hu hv hnone hw rfl
      exact ⟨_, hexec, accepted_eq hwork rfl⟩
    refine ⟨fun hbelow => hends (storeObjectCheck_waits hx given (.inr ⟨hending, l, hlength, hbelow⟩)),
      fun hedge hacc => hends (storeObjectCheck_done hx given hending hlength hedge hacc), fun hedge hacc => ?_⟩
    obtain ⟨⟨hwc, hw, -⟩, -, -⟩ := hpool
    obtain ⟨w, hfails⟩ : ∃ w, failStream (setCtx s i { x with expected := some given }) i .objectCheck = w := ⟨_, rfl⟩
    obtain ⟨d, hd, hfields, honly, hready, hclaims⟩ := failStream_fails (s := setCtx s i { x with expected := some given })
      (x := { x with expected := some given }) hw (ctxOf_setCtx_same ..) (by simp [hending]) .objectCheck
    have hstored := storeObjectCheck_failed hx given hending hlength hedge hw hacc
    rw [hfails] at hd honly hready hclaims hstored
    obtain ⟨hexec, hwork⟩ := exec_trailer_ending h hl hending hlength hagrees hshort hp hu hv hnone hstored rfl
    obtain ⟨⟨hdisposition, hqueue, hlinks⟩, hbefore⟩ := accepted_spec hwork rfl
    have honly' : OnlyStream s w i := onlyStream_trans (onlyStream_setCtx ..) honly
    exact ⟨_, d, hexec, hdisposition, hqueue, hlinks, hd, by rw [hfields], by rw [hfields], by rw [hfields],
      by rw [hfields], by rw [hfields], hbefore ▸ honly', hready, hclaims, hbefore.trans hfails.symm⟩
  · intro s i x l hx e n w last
    refine ⟨learnLength_of_not_opened hx, fun hopen => learnLength_cases l hx hopen, fun slot h =>
      mem_recordsOf_findUnsealed h, findUnsealed_eq_none_iff s i (n - 1)⟩

end Sys2Proof.Machine
end


section
/-! PROOFS. The admission of a SEGMENT (spec/02, sections 2.4 and 2.5): its format, its pieces and their places, and the refusals in
order; statement O6. -/
namespace Sys2Proof.Machine

/-! ## The pieces of a segment (R41) -/

theorem maxPayload_le_extentBytes (z : ExtentSize) : Config.maxPayload ≤ extentBytes z := by cases z <;> decide

theorem piecesOf_within {e off len : Nat} (h : (off + len - 1) / e = off / e) :
    piecesOf e off len = [{ index := off / e, start := off - off / e * e, stop := off + len - off / e * e }] := by
  rw [piecesOf, h]
  exact if_pos rfl

/-- A segment not longer than an extent meets at most one boundary of extents. -/
theorem last_extent_eq {e off len : Nat} (he : 0 < e) (hpos : 0 < len) (hlen : len ≤ e) (h : (off + len - 1) / e ≠ off / e) :
    (off + len - 1) / e = off / e + 1 := by
  have hlower : off / e ≤ (off + len - 1) / e := Nat.div_le_div_right (by omega)
  have hupper : (off + len - 1) / e ≤ off / e + 1 := by
    rw [← Nat.add_div_right _ he]
    exact Nat.div_le_div_right (by omega)
  omega

theorem piecesOf_across {e off len : Nat} (h : (off + len - 1) / e = off / e + 1) :
    piecesOf e off len =
      [{ index := off / e, start := off - off / e * e, stop := e },
       { index := off / e + 1, start := 0, stop := off + len - (off / e + 1) * e }] := by
  rw [piecesOf, h]
  exact if_neg (Nat.lt_succ_self _).ne

/-! ## The places of the pieces (R42, R43) -/

/-- A LIVE position has a record (R20). -/
theorem exists_unsealedRecord_of_live {s : State} (hw : tabWf s.extents = true) (hwindows : WindowsTrue s) {i k : Nat}
    {x : Context} (hx : ctxOf s i = some x) (hlive : winGet x k = .live) :
    ∃ slot r, unsealedRecord s i k = some (slot, r) ∧ tabGet s.extents slot = some r ∧ r.stream = i ∧ r.index = k ∧
      r.state.unsealed = true := by
  obtain ⟨p, hwindow, rfl⟩ := winGet_eq_live_iff.1 hlive
  obtain ⟨y, hy, hrecord⟩ := hwindows.2.1 (i, x) (mem_of_tabGet hx) p hwindow
  cases hrec : unsealedRecord s i (x.edge + p) with
  | none => exact absurd hrecord (unsealedRecord_eq_none_iff.1 hrec y hy)
  | some z =>
    obtain ⟨slot, r⟩ := z
    have hfind : findUnsealed s i (x.edge + p) = some slot := by
      rw [unsealedRecord] at hrec
      obtain ⟨n, hn, hmap⟩ := Option.bind_eq_some_iff.1 hrec
      obtain ⟨q, -, heq⟩ := Option.map_eq_some_iff.1 hmap
      cases heq
      exact hn
    obtain ⟨q, hq, hi, hindex', hunsealed'⟩ := slotOf_findUnsealed hw hfind
    obtain ⟨hr, -⟩ := unsealedRecord_eq_some hw hrec
    rw [hr] at hq
    cases hq
    exact ⟨slot, r, rfl, hr, hi, hindex', hunsealed'⟩

section
variable {s : State} {i : Nat} {x : Context} {p : Piece}

theorem placeOf_of_duplicate (h : p.index < x.edge ∨ winGet x p.index = .sealed) : placeOf s i x p = .duplicate := by
  rw [placeOf]
  rcases h with h | h
  · exact if_pos h
  · rw [h, ite_self]

theorem placeOf_of_live {slot : Nat} {r : Extent} (hlive : winGet x p.index = .live)
    (hrec : unsealedRecord s i p.index = some (slot, r)) : placeOf s i x p = .live slot r.ranges := by
  obtain ⟨hlo, -⟩ := in_window_of_winGet (by simp [hlive] : winGet x p.index ≠ .absent)
  rw [placeOf, if_neg hlo.not_gt, hlive, hrec]

theorem placeOf_of_absent (hlo : x.edge ≤ p.index) (habsent : winGet x p.index = .absent) :
    placeOf s i x p = .absent := by
  rw [placeOf, if_neg hlo.not_gt, habsent]

end

theorem overRangeLimit_live_iff {p : Piece} {slot : Nat} {rs : List (Nat × Nat)} (hrs : rangesFrom 0 rs = true)
    (hp : p.start < p.stop) : overRangeLimit p (.live slot rs) = true ↔ 8 < (insertRange rs p.start p.stop).length := by
  rw [overRangeLimit, decide_eq_true_eq, length_insertRange hrs hp]
  rfl

theorem needsRecord_eq (place : Place) : needsRecord place = (place == .absent) := by cases place <;> rfl

/-! ## The admission steps (R39, R40, R42 to R44) -/

section
variable {s : State} {i : Nat} {x : Context} {a : SegmentArrival}

theorem segmentAdmission_of_format {code : DispCode} (h : segmentFormat a = some code) :
    segmentAdmission s i x a = .error code := by
  rw [segmentAdmission, h]

/-- The three tests of step 3, with the payload limit of R31. -/
theorem segmentFormat_eq_none_of (haligned : a.offset.toNat % 4 = 0) (hpos : 0 < a.payload.length)
    (hlen : a.payload.length ≤ 16384) (hwords : a.final = true ∨ a.payload.length % 4 = 0) : segmentFormat a = none := by
  rw [segmentFormat, if_neg (by simpa using haligned), if_neg (by rintro (h | h); exacts [hpos.ne' h, hlen.not_gt h]), if_neg]
  rintro ⟨hfinal, hne⟩
  rcases hwords with h | h
  · simp [hfinal] at h
  · exact hne h

theorem segmentFormat_bad_length (haligned : a.offset.toNat % 4 = 0)
    (h : a.payload.length = 0 ∨ 16384 < a.payload.length ∨ (a.final = false ∧ a.payload.length % 4 ≠ 0)) :
    segmentFormat a = some .badLength := by
  rw [segmentFormat, if_neg (by simpa using haligned)]
  by_cases hlen : a.payload.length = 0 ∨ Config.maxPayload < a.payload.length
  · exact if_pos hlen
  · rw [if_neg hlen, if_pos]
    exact (or_assoc.2 h).resolve_left hlen

section
variable (hformat : segmentFormat a = none)
include hformat

theorem segmentAdmission_of_length {code : DispCode} (h : segmentLength s i x a = some code) :
    segmentAdmission s i x a = .error code := by
  rw [segmentAdmission, hformat, h]

variable (hlength : segmentLength s i x a = none)
include hlength

theorem segmentAdmission_of_done (hdone : x.state = .done) : segmentAdmission s i x a = .ok [] := by
  rw [segmentAdmission, hformat, hlength]
  exact if_pos hdone

theorem segmentAdmission_of_room {code : DispCode} (hdone : x.state ≠ .done)
    (h : segmentRoom s x (placedPieces s i x a) = some code) : segmentAdmission s i x a = .error code := by
  rw [segmentAdmission, hformat, hlength]
  simp only [if_neg hdone, h]

theorem segmentAdmission_of_admitted (hdone : x.state ≠ .done) (h : segmentRoom s x (placedPieces s i x a) = none) :
    segmentAdmission s i x a = .ok (targetsOf s.freeSlots (placedPieces s i x a)) := by
  rw [segmentAdmission, hformat, hlength]
  simp only [if_neg hdone, h]

end

theorem segmentLength_beyond (h : 2 ^ 44 < segmentEnd a) : segmentLength s i x a = some .beyondEnd := if_pos h

section
variable (hstop : segmentEnd a ≤ 2 ^ 44)
include hstop

theorem segmentLength_of_known {l : Nat} (hl : x.length = some l) :
    segmentLength s i x a =
      if a.final = true then if segmentEnd a = l then none else some .lengthConflict
      else if l < segmentEnd a then some .beyondEnd else none := by
  rw [segmentLength, if_neg (show ¬ Config.maxObject < segmentEnd a from hstop.not_gt), hl]

theorem segmentLength_of_unknown (hl : x.length = none) :
    segmentLength s i x a =
      if a.final = true ∧ lengthConflict s i x (segmentEnd a) = true then some .lengthConflict else none := by
  rw [segmentLength, if_neg (show ¬ Config.maxObject < segmentEnd a from hstop.not_gt), hl]
  simp only [Bool.and_eq_true]

end

theorem segmentLength_eq_none_iff :
    segmentLength s i x a = none ↔
      segmentEnd a ≤ 2 ^ 44 ∧
        (∀ l, x.length = some l → if a.final = true then segmentEnd a = l else segmentEnd a ≤ l) ∧
        (x.length = none → a.final = true → lengthConflict s i x (segmentEnd a) = false) := by
  by_cases hstop : segmentEnd a ≤ 2 ^ 44
  · rw [and_iff_right hstop]
    cases hl : x.length with
    | none => simp [segmentLength_of_unknown hstop hl]
    | some l =>
      rw [segmentLength_of_known hstop hl]
      by_cases hfinal : a.final = true <;> simp [hfinal]
  · rw [segmentLength_beyond (Nat.lt_of_not_le hstop)]
    exact ⟨fun h => absurd h (Option.some_ne_none _), fun h => absurd h.1 hstop⟩

end

/-! ## The refusals of steps 5 to 7 -/

section
variable {s : State} {x : Context} {ps : List (Piece × Place)}

theorem segmentRoom_out_of_window (h : ∃ p ∈ ps, x.edge + 64 ≤ p.1.index) : segmentRoom s x ps = some .outOfWindow := by
  obtain ⟨p, hp, habove⟩ := h
  exact if_pos (List.any_eq_true.2 ⟨p, hp, decide_eq_true habove⟩)

variable (hwindow : ∀ p ∈ ps, p.1.index < x.edge + 64)
include hwindow

theorem segmentRoom_within_window :
    segmentRoom s x ps =
      if ps.any (fun p => overRangeLimit p.1 p.2) = true then some .rangeLimit
      else if s.freeSlots.length < (ps.filter (fun p => p.2 == .absent)).length then some .noSlot else none := by
  simp only [segmentRoom, needsRecord_eq]
  rw [if_neg]
  rintro habove
  obtain ⟨p, hp, habove⟩ := List.any_eq_true.1 habove
  exact (hwindow p hp).not_ge (of_decide_eq_true habove)

theorem segmentRoom_range_limit (h : ∃ p ∈ ps, overRangeLimit p.1 p.2 = true) : segmentRoom s x ps = some .rangeLimit := by
  rw [segmentRoom_within_window hwindow, if_pos (List.any_eq_true.2 h)]

theorem segmentRoom_within_limit (h : ∀ p ∈ ps, overRangeLimit p.1 p.2 = false) :
    segmentRoom s x ps =
      if s.freeSlots.length < (ps.filter (fun p => p.2 == .absent)).length then some .noSlot else none := by
  rw [segmentRoom_within_window hwindow, if_neg]
  simpa using h

end

/-! ## The taking of a SEGMENT -/

section
variable {s : State} {a : SegmentArrival} {rest : List Arrival} (h : AtHead s (.segment a) rest)
include h

theorem exec_segment_atHead : exec .segment s = handleSegment { s with inputQueue := rest } a := execSegment_atHead h

theorem exec_segment_unmapped (hl : lookupTag s a.tag = none) :
    exec .segment s = .next (answeredUnknown s rest a.link a.tag) := by
  rw [exec_segment_atHead h, handleSegment, countLink_arrival]
  simp only [lookupTag_withPorts, hl]
  rw [← countLink_arrival, refuseUnknownStream_eq]

variable {i : Nat} {x : Context} (hl : lookupTag s a.tag = some (i, x))
include hl

theorem exec_segment_failed (hst : x.state = .failed ∨ x.state = .withdrawing) :
    exec .segment s = .next (turnedAway s rest a.link a.tag i x .streamFailed) := by
  rw [exec_segment_atHead h, handleSegment, countLink_arrival]
  simp only [lookupTag_withPorts, hl, if_pos hst]
  rw [← countLink_arrival, refuseArrival_eq (ctxOf_of_lookupTag hl)]

theorem exec_segment_refused (hst : ¬ (x.state = .failed ∨ x.state = .withdrawing)) {code : DispCode}
    (hcode : segmentAdmission s i x a = .error code) :
    exec .segment s = .next (turnedAway s rest a.link a.tag i x code) := by
  have hcode' : segmentAdmission (withPorts s (arrivedPorts s rest a.link)) i x a = .error code := hcode
  rw [exec_segment_atHead h, handleSegment, countLink_arrival]
  simp only [lookupTag_withPorts, hl, if_neg hst, hcode']
  rw [← countLink_arrival, refuseArrival_eq (ctxOf_of_lookupTag hl)]

end

/-- Settles O6: the refusals by the admission steps, the pieces by `piecesOf_within` and `piecesOf_across`, the places by
`exists_unsealedRecord_of_live`. -/
theorem refusedSegmentChangesNoData : Obligations.RefusedSegmentChangesNoData := by
  unfold Obligations.RefusedSegmentChangesNoData
  refine ⟨fun s a rest h => ⟨exec_segment_unmapped h, ?_⟩, ?_, fun s i x p hpool hwindows hx => ⟨?_, fun hlive => ?_, ?_⟩, ?_⟩
  · intro i x hl refused stop
    refine ⟨exec_segment_failed h hl, fun hfailed hwithdrawing => ?_⟩
    have hrefused {code : DispCode} (hcode : segmentAdmission s i x a = .error code) : refused code :=
      exec_segment_refused h hl (by simp [hfailed, hwithdrawing]) hcode
    refine ⟨fun hmis => hrefused (segmentAdmission_of_format (if_pos hmis)), fun haligned =>
      ⟨fun hbad => hrefused (segmentAdmission_of_format (segmentFormat_bad_length haligned hbad)), fun hpos hlen hwords => ?_⟩⟩
    have hformat := segmentFormat_eq_none_of haligned hpos hlen hwords
    refine ⟨fun hbeyond => hrefused (segmentAdmission_of_length hformat (segmentLength_beyond hbeyond)), fun hstop =>
      ⟨fun l hl' hfinal hover => ?_, fun l hl' hfinal hne => ?_, fun hnone hfinal hconflict => ?_,
        segmentAdmission_of_done hformat, fun hlength hdone => ?_⟩⟩
    · refine hrefused (segmentAdmission_of_length hformat ?_)
      rw [segmentLength_of_known hstop hl', if_neg (by simp [hfinal])]
      exact if_pos hover
    · refine hrefused (segmentAdmission_of_length hformat ?_)
      rw [segmentLength_of_known hstop hl', if_pos hfinal]
      exact if_neg hne
    · refine hrefused (segmentAdmission_of_length hformat ?_)
      rw [segmentLength_of_unknown hstop hnone]
      exact if_pos ⟨hfinal, hconflict⟩
    · intro ps created
      refine ⟨fun habove => ?_, fun hwindow => ⟨fun hmany => ?_, fun hfew => ⟨fun hfull => ?_, fun hfree => ?_⟩⟩⟩
      · exact hrefused (segmentAdmission_of_room hformat hlength hdone (segmentRoom_out_of_window habove))
      · exact hrefused (segmentAdmission_of_room hformat hlength hdone (segmentRoom_range_limit hwindow hmany))
      · refine hrefused (segmentAdmission_of_room hformat hlength hdone ?_)
        rw [segmentRoom_within_limit hwindow hfew]
        exact if_pos hfull
      · refine ⟨_, segmentAdmission_of_admitted hformat hlength hdone ?_⟩
        rw [segmentRoom_within_limit hwindow hfew]
        exact if_neg hfree.not_gt
  · intro s i x a hpos hlen e off stop k placed
    refine ⟨fun hwithin => ?_, fun hacross => ?_, segmentLength_eq_none_iff⟩
    · rw [placedPieces, piecesOf_within hwithin]
      rfl
    · have hlast := last_extent_eq (extentBytes_pos _) hpos (hlen.trans (maxPayload_le_extentBytes _)) hacross
      refine ⟨hlast, ?_⟩
      rw [placedPieces, piecesOf_across hlast]
      rfl
  · exact placeOf_of_duplicate
  · obtain ⟨slot, r, hrec, hr, hi, hindex, hunsealed⟩ := exists_unsealedRecord_of_live hpool.1.2.1 hwindows hx hlive
    exact ⟨slot, r, hr, hi, hindex, hunsealed, placeOf_of_live hlive hrec⟩
  · exact placeOf_of_absent
  · exact fun p => ⟨rfl, rfl, fun slot rs hrs hp => overRangeLimit_live_iff hrs hp⟩

end Sys2Proof.Machine
end


section
/-! PROOFS. The targets of an admitted SEGMENT (spec/02, section 2.5) and the state after steps 1 and 2 of R45: the new records and
the written pieces. -/
namespace Sys2Proof.Machine

/-! ## The targets (R42, R58) -/

/-- The place of a target: an ABSENT position, whose piece is new whole, or the record of a LIVE one, to which the piece is
trimmed. -/
def TargetPlaced (s : State) (i : Nat) (x : Context) (g : Target) : Prop :=
  if g.fresh = true then winGet x g.piece.index = .absent ∧ g.runs = [(g.piece.start, g.piece.stop)]
  else
    winGet x g.piece.index = .live ∧
      ∃ r, tabGet s.extents g.slot = some r ∧ r.stream = i ∧ r.index = g.piece.index ∧ r.state.unsealed = true ∧
        g.runs = trimPiece r.ranges g.piece.start g.piece.stop

/-- The targets of a segment: each in its place, the new ones on the first free slots, no slot and no extent twice. -/
structure SegmentTargets (s : State) (i : Nat) (x : Context) (a : SegmentArrival) (ts : List Target) : Prop where
  placed : ∀ g ∈ ts, TargetPlaced s i x g
  pieces : ∀ g ∈ ts, g.piece ∈ (placedPieces s i x a).map (fun p => p.1)
  window : ∀ g ∈ ts, x.edge ≤ g.piece.index ∧ g.piece.index < x.edge + 64
  freshSlots : (ts.filter (·.fresh)).map (·.slot) = s.freeSlots.take (ts.filter (·.fresh)).length
  room : (ts.filter (·.fresh)).length ≤ s.freeSlots.length
  unbound : ∀ g ∈ ts, g.fresh = true → tabGet s.extents g.slot = none
  indexes : (ts.map (·.piece.index)).Nodup
  slots : (ts.map (·.slot)).Nodup

theorem filter_fresh_targetsOf {free : List Nat} {ps : List (Piece × Place)}
    (hroom : (ps.filter (fun p => needsRecord p.2)).length ≤ free.length) :
    ((targetsOf free ps).filter (·.fresh)).length = (ps.filter (fun p => needsRecord p.2)).length ∧
      ((targetsOf free ps).filter (·.fresh)).map (·.slot) = free.take (ps.filter (fun p => needsRecord p.2)).length := by
  induction ps generalizing free with
  | nil => exact ⟨rfl, rfl⟩
  | cons p ps ih =>
    obtain ⟨p, place⟩ := p
    cases place with
    | duplicate => exact ih hroom
    | live slot rs =>
      rw [targetsOf]
      split
      · exact ih hroom
      · exact ih hroom
    | absent =>
      cases free with
      | nil => simp [needsRecord] at hroom
      | cons slot rest =>
        obtain ⟨hlength, hslots⟩ := ih (free := rest) (by simpa [needsRecord] using hroom)
        simp [targetsOf, needsRecord, hlength, hslots]

theorem winGet_of_placeOf_live {s : State} {i : Nat} {x : Context} {p : Piece} {slot : Nat} {rs : List (Nat × Nat)}
    (h : placeOf s i x p = .live slot rs) : winGet x p.index = .live := by
  cases hw : winGet x p.index with
  | live => rfl
  | sealed => simp [placeOf, hw] at h
  | absent =>
    rw [placeOf, hw] at h
    split at h <;> cases h

section
variable {s : State} {i : Nat} {x : Context} (hw : tabWf s.extents = true) (hwindows : WindowsTrue s)
  (hx : ctxOf s i = some x)
include hw hwindows hx

theorem targetPlaced_of_mem {a : SegmentArrival} {g : Target} (hg : g ∈ targetsOf s.freeSlots (placedPieces s i x a)) :
    TargetPlaced s i x g := by
  rw [TargetPlaced]
  rcases mem_targetsOf hg with ⟨hfresh, hmem⟩ | ⟨hfresh, rs, hmem⟩
  · obtain ⟨p, -, hp⟩ := List.mem_map.1 hmem
    obtain ⟨rfl, hplace⟩ := Prod.mk.inj hp
    obtain ⟨-, hsealed, hlive⟩ := placeOf_eq_absent hplace
    rw [if_pos hfresh]
    constructor
    · cases hpos : winGet x g.piece.index with
      | absent => rfl
      | sealed => exact absurd hpos hsealed
      | live =>
        obtain ⟨slot, r, hrec, -⟩ := exists_unsealedRecord_of_live hw hwindows hx hpos
        rw [hlive hpos] at hrec
        cases hrec
    · rcases runs_of_mem_targetsOf hg with ⟨-, hruns⟩ | ⟨rs, hmem', -⟩
      · exact hruns
      · obtain ⟨p, -, hp⟩ := List.mem_map.1 hmem'
        obtain ⟨rfl, hplace'⟩ := Prod.mk.inj hp
        rw [hplace] at hplace'
        cases hplace'
  · obtain ⟨p, -, hp⟩ := List.mem_map.1 hmem
    obtain ⟨rfl, hplace⟩ := Prod.mk.inj hp
    have hlive := winGet_of_placeOf_live hplace
    obtain ⟨slot, r, hrec, hr, hi, hindex, hunsealed⟩ := exists_unsealedRecord_of_live hw hwindows hx hlive
    rw [placeOf_of_live hlive hrec] at hplace
    cases hplace
    rw [if_neg (by simp [hfresh])]
    refine ⟨hlive, r, hr, hi, hindex, hunsealed, ?_⟩
    rcases runs_of_mem_targetsOf hg with ⟨hfresh', -⟩ | ⟨rs, hmem', hruns⟩
    · simp [hfresh] at hfresh'
    · obtain ⟨p, -, hp⟩ := List.mem_map.1 hmem'
      obtain ⟨rfl, hplace'⟩ := Prod.mk.inj hp
      rw [placeOf_of_live hlive hrec] at hplace'
      cases hplace'
      exact hruns

end

theorem target_in_window {s : State} {i : Nat} {x : Context} {a : SegmentArrival}
    (hroom : segmentRoom s x (placedPieces s i x a) = none) {g : Target}
    (hg : g ∈ targetsOf s.freeSlots (placedPieces s i x a)) : x.edge ≤ g.piece.index ∧ g.piece.index < x.edge + 64 := by
  have hbelow {place : Place} (hmem : (g.piece, place) ∈ placedPieces s i x a) : g.piece.index < x.edge + 64 := by
    by_contra habove
    rw [segmentRoom_out_of_window ⟨_, hmem, Nat.le_of_not_lt habove⟩] at hroom
    cases hroom
  rcases mem_targetsOf hg with ⟨-, hmem⟩ | ⟨-, rs, hmem⟩
  · obtain ⟨p, -, hp⟩ := List.mem_map.1 hmem
    obtain ⟨rfl, hplace⟩ := Prod.mk.inj hp
    exact ⟨(placeOf_eq_absent hplace).1, hbelow hmem⟩
  · obtain ⟨p, -, hp⟩ := List.mem_map.1 hmem
    obtain ⟨rfl, hplace⟩ := Prod.mk.inj hp
    exact ⟨(in_window_of_winGet (by simp [winGet_of_placeOf_live hplace])).1, hbelow hmem⟩

/-- No two targets go to one slot. -/
theorem target_slots_nodup {s : State} {i : Nat} {x : Context} {ts : List Target} (hnodup : s.freeSlots.Nodup)
    (hplaced : ∀ g ∈ ts, TargetPlaced s i x g) (hunbound : ∀ g ∈ ts, g.fresh = true → tabGet s.extents g.slot = none)
    (hfresh : (ts.filter (·.fresh)).map (·.slot) = s.freeSlots.take (ts.filter (·.fresh)).length)
    (hindexes : (ts.map (·.piece.index)).Nodup) : (ts.map (·.slot)).Nodup := by
  have hts : ts.Nodup := hindexes.of_map
  have hfreshNodup : ((ts.filter (·.fresh)).map (·.slot)).Nodup := hfresh ▸ hnodup.sublist (List.take_sublist ..)
  have hold {g : Target} (hg : g ∈ ts) (hf : ¬ g.fresh = true) :
      ∃ r, tabGet s.extents g.slot = some r ∧ r.index = g.piece.index := by
    have hp := hplaced g hg
    rw [TargetPlaced, if_neg hf] at hp
    obtain ⟨-, r, hr, -, hindex, -⟩ := hp
    exact ⟨r, hr, hindex⟩
  refine (List.nodup_map_iff_inj_on hts).2 fun g hg q hq heq => ?_
  by_cases hgf : g.fresh = true <;> by_cases hqf : q.fresh = true
  · exact List.inj_on_of_nodup_map hfreshNodup (List.mem_filter.2 ⟨hg, hgf⟩) (List.mem_filter.2 ⟨hq, hqf⟩) heq
  · obtain ⟨r, hr, -⟩ := hold hq hqf
    rw [← heq, hunbound g hg hgf] at hr
    cases hr
  · obtain ⟨r, hr, -⟩ := hold hg hgf
    rw [heq, hunbound q hq hqf] at hr
    cases hr
  · obtain ⟨r, hr, hindex⟩ := hold hg hgf
    obtain ⟨r', hr', hindex'⟩ := hold hq hqf
    rw [heq, hr'] at hr
    cases hr
    exact List.inj_on_of_nodup_map hindexes hg hq (hindex.symm.trans hindex')

theorem segmentTargets_of_admission {s : State} {i : Nat} {x : Context} {a : SegmentArrival} {ts : List Target}
    (hpool : PoolTrue s) (hwindows : WindowsTrue s) (hx : ctxOf s i = some x) (hok : segmentAdmission s i x a = .ok ts) :
    SegmentTargets s i x a ts := by
  obtain ⟨⟨-, hw, -⟩, haccounted, -⟩ := hpool
  obtain ⟨hnodup, hfree⟩ := freeSlots_of_poolAccounted haccounted
  have hindexes := target_index_nodup hok
  obtain ⟨-, -, rfl | ⟨hroom, rfl⟩⟩ := segmentAdmission_eq_ok hok
  · exact ⟨by simp, by simp, by simp, rfl, Nat.zero_le _, by simp, .nil, .nil⟩
  have hcount := (segmentRoom_eq_none hroom).2
  obtain ⟨hlength, hslots⟩ := filter_fresh_targetsOf hcount
  have hfresh := hslots.trans (congrArg (s.freeSlots.take ·) hlength.symm)
  have hplaced (g : Target) (hg : g ∈ targetsOf s.freeSlots (placedPieces s i x a)) : TargetPlaced s i x g :=
    targetPlaced_of_mem hw hwindows hx hg
  have hunbound (g : Target) (hg : g ∈ targetsOf s.freeSlots (placedPieces s i x a)) (hf : g.fresh = true) :
      tabGet s.extents g.slot = none := by
    have hmem : g.slot ∈ ((targetsOf s.freeSlots (placedPieces s i x a)).filter (·.fresh)).map (·.slot) :=
      List.mem_map_of_mem (List.mem_filter.2 ⟨hg, hf⟩)
    rw [hfresh] at hmem
    exact hfree _ (List.mem_of_mem_take hmem)
  exact {
    placed := hplaced
    pieces := fun g hg => (targetsOf_pieces_sublist ..).subset (List.mem_map_of_mem hg)
    window := fun g hg => target_in_window hroom hg
    freshSlots := hfresh
    room := hlength ▸ hcount
    unbound := hunbound
    indexes := hindexes
    slots := target_slots_nodup hnodup hplaced hunbound hfresh hindexes }

/-! ## Step 1 of R45: the new records -/

/-- The context of the stream after the records of the new targets `fs` are created (R66). -/
def createdContext (x : Context) (fs : List Target) : Context :=
  fs.foldl (fun c g => { c with window := winSet c g.piece.index .live, held := c.held + 1 }) x

/-- The extent table after the records of the new targets `fs` are created. -/
def createdExtents (i : Nat) (t : Table Extent) (fs : List Target) : Table Extent :=
  fs.foldl (fun u g => tabSet u g.slot (newExtent i g.piece.index none)) t

theorem foldl_createExtent {i : Nat} (fs : List Target) {s : State} {x : Context} (hw : tabWf s.contexts = true)
    (hx : ctxOf s i = some x) (hslots : fs.map (·.slot) = s.freeSlots.take fs.length) (hroom : fs.length ≤ s.freeSlots.length) :
    fs.foldl (fun u g => createExtent u i g.piece.index none) s =
      { s with
        freeSlots := s.freeSlots.drop fs.length
        extents := createdExtents i s.extents fs
        contexts := tabSet s.contexts i (createdContext x fs) } := by
  induction fs generalizing s x with
  | nil => simp [createdExtents, createdContext, tabSet_self hw hx]
  | cons g fs ih =>
    cases hfree : s.freeSlots with
    | nil => simp [hfree] at hroom
    | cons slot rest =>
      simp only [hfree, List.map_cons, List.length_cons, List.take_succ_cons, List.cons.injEq] at hslots
      obtain ⟨hslot, hslots⟩ := hslots
      have hstep := createExtent_eq hfree hx g.piece.index none
      rw [List.foldl_cons, ih (x := { x with window := winSet x g.piece.index .live, held := x.held + 1 })]
      · rw [hstep]
        simp [createdExtents, createdContext, hslot]
      · rw [hstep]
        exact tabWf_tabSet hw ..
      · rw [hstep]
        exact tabGet_tabSet_same ..
      · rw [hstep]
        exact hslots
      · rw [hstep]
        simpa [hfree] using hroom

theorem createdContext_eq (x : Context) (fs : List Target) :
    createdContext x fs = { x with held := x.held + fs.length, window := (createdContext x fs).window } := by
  induction fs generalizing x with
  | nil => rfl
  | cons g fs ih =>
    have hlength : x.held + 1 + fs.length = x.held + (g :: fs).length := by rw [List.length_cons]; omega
    rw [← hlength]
    exact ih { x with window := winSet x g.piece.index .live, held := x.held + 1 }

theorem winGet_createdContext {fs : List Target} {x : Context}
    (hin : ∀ g ∈ fs, x.edge ≤ g.piece.index ∧ g.piece.index < x.edge + 64) (k : Nat) :
    winGet (createdContext x fs) k = if fs.any (fun g => g.piece.index == k) = true then .live else winGet x k := by
  induction fs generalizing x with
  | nil => rfl
  | cons g fs ih =>
    obtain ⟨⟨hlo, hhi⟩, hrest⟩ := List.forall_mem_cons.1 hin
    have hset := winGet_winSet x g.piece.index k .live
    have hg : winGet { x with window := winSet x g.piece.index .live, held := x.held + 1 } k =
        if k = g.piece.index then .live else winGet x k := by
      refine hset.trans ?_
      simp only [hlo, Nat.sub_lt_left_of_lt_add hlo hhi, and_self, and_true]
    refine (ih (x := { x with window := winSet x g.piece.index .live, held := x.held + 1 }) hrest).trans ?_
    rw [hg, List.any_cons]
    by_cases hk : k = g.piece.index
    · simp [hk]
    · simp [hk, Ne.symm hk]

theorem tabGet_createdExtents_other (i : Nat) (t : Table Extent) {fs : List Target} {m : Nat}
    (hm : ∀ g ∈ fs, g.slot ≠ m) : tabGet (createdExtents i t fs) m = tabGet t m := by
  induction fs generalizing t with
  | nil => rfl
  | cons g fs ih =>
    obtain ⟨hg, hrest⟩ := List.forall_mem_cons.1 hm
    exact (ih _ hrest).trans (tabGet_tabSet_other t _ (Ne.symm hg))

theorem tabGet_createdExtents_same (i : Nat) (t : Table Extent) {fs : List Target} (hnodup : (fs.map (·.slot)).Nodup)
    {g : Target} (hg : g ∈ fs) : tabGet (createdExtents i t fs) g.slot = some (newExtent i g.piece.index none) := by
  induction fs generalizing t with
  | nil => cases hg
  | cons q fs ih =>
    obtain ⟨hfirst, hrest⟩ := List.nodup_cons.1 hnodup
    rcases List.mem_cons.1 hg with rfl | hg
    · refine (tabGet_createdExtents_other i (tabSet t g.slot (newExtent i g.piece.index none)) (fs := fs)
        fun z hz heq => hfirst ?_).trans (tabGet_tabSet_same ..)
      exact List.mem_map.2 ⟨z, hz, heq⟩
    · exact ih _ hrest hg

theorem tabWf_createdExtents (i : Nat) {t : Table Extent} (hw : tabWf t = true) (fs : List Target) :
    tabWf (createdExtents i t fs) = true :=
  List.foldlRecOn (motive := fun u => tabWf u = true) _ _ hw fun _ hu _ _ => tabWf_tabSet hu ..

/-! ## Step 2 of R45: the written pieces -/

theorem accumulateRuns_eq_foldl (acc : Pcv) (e off : Nat) (payload : List Byte) (k : Nat) (runs : List (Nat × Nat)) :
    accumulateRuns acc e off payload k runs =
      runs.foldl (fun p q => accumulate p (q.1 / 4) ((payload.drop (k * e + q.1 - off)).take (q.2 - q.1))) acc := by
  induction runs generalizing acc with
  | nil => rfl
  | cons q runs ih => exact ih _

theorem writeTarget_eq {u : State} {g : Target} {r : Extent} (hr : tabGet u.extents g.slot = some r) (a : SegmentArrival) :
    writeTarget a u g =
      { u with
        mem := writeRuns u.mem (extentBytes u.extentSize) a.offset.toNat a.payload g.slot g.piece.index g.runs
        extents := tabSet u.extents g.slot (recordWritten (extentBytes u.extentSize) a g r) } := by
  rw [writeTarget, hr, recordWritten, ← accumulateRuns_eq_foldl]
  rfl

/-- The extent table after the pieces of the targets are inserted and accumulated. -/
def writtenExtents (e : Nat) (a : SegmentArrival) (t : Table Extent) (ts : List Target) : Table Extent :=
  ts.foldl (fun u g => (tabGet u g.slot).elim u fun r => tabSet u g.slot (recordWritten e a g r)) t

/-- Buffer memory after the sub-pieces of the targets are written. -/
def writtenMem (e : Nat) (a : SegmentArrival) (m : List Host.Cell) (ts : List Target) : List Host.Cell :=
  ts.foldl (fun m g => writeRuns m e a.offset.toNat a.payload g.slot g.piece.index g.runs) m

theorem foldl_writeTarget (a : SegmentArrival) (ts : List Target) {u : State}
    (hbound : ∀ g ∈ ts, ∃ r, tabGet u.extents g.slot = some r) :
    ts.foldl (writeTarget a) u =
      { u with
        mem := writtenMem (extentBytes u.extentSize) a u.mem ts
        extents := writtenExtents (extentBytes u.extentSize) a u.extents ts } := by
  induction ts generalizing u with
  | nil => rfl
  | cons g ts ih =>
    obtain ⟨⟨r, hr⟩, hrest⟩ := List.forall_mem_cons.1 hbound
    rw [List.foldl_cons, ih]
    · rw [writeTarget_eq hr, writtenMem, writtenExtents, writtenMem, writtenExtents, List.foldl_cons, List.foldl_cons, hr]
      rfl
    · intro q hq
      rw [writeTarget_eq hr]
      dsimp only
      rw [tabGet_tabSet]
      split
      · exact ⟨_, rfl⟩
      · exact hrest q hq

theorem tabGet_writtenExtents (e : Nat) (a : SegmentArrival) (t : Table Extent) {ts : List Target}
    (hnodup : (ts.map (·.slot)).Nodup) (m : Nat) :
    tabGet (writtenExtents e a t ts) m =
      (ts.find? (fun g => g.slot == m)).elim (tabGet t m) fun g => (tabGet t g.slot).map (recordWritten e a g) := by
  induction ts generalizing t with
  | nil => rfl
  | cons g ts ih =>
    obtain ⟨hfirst, hrest⟩ := List.nodup_cons.1 hnodup
    have hstep (k : Nat) : tabGet ((tabGet t g.slot).elim t fun r => tabSet t g.slot (recordWritten e a g r)) k =
        if k = g.slot then (tabGet t g.slot).map (recordWritten e a g) else tabGet t k := by
      cases hr : tabGet t g.slot with
      | none => split <;> simp_all
      | some r => exact tabGet_tabSet ..
    refine (ih _ hrest).trans ?_
    rw [List.find?_cons]
    by_cases hm : g.slot = m
    · have hnone : ts.find? (fun q => q.slot == m) = none := by
        rw [List.find?_eq_none]
        intro q hq heq
        exact hfirst (List.mem_map.2 ⟨q, hq, (beq_iff_eq.1 heq).trans hm.symm⟩)
      rw [hnone, beq_iff_eq.2 hm, Option.elim_none, Option.elim_some, hstep, if_pos hm.symm]
    · rw [beq_eq_false_iff_ne.2 hm]
      dsimp only
      cases hfind : ts.find? (fun q => q.slot == m) with
      | none => rw [Option.elim_none, Option.elim_none, hstep, if_neg (Ne.symm hm)]
      | some q =>
        have hq := List.find?_some hfind
        rw [Option.elim_some, Option.elim_some, hstep, if_neg]
        rw [beq_iff_eq.1 hq]
        exact Ne.symm hm

theorem tabWf_writtenExtents (e : Nat) (a : SegmentArrival) {t : Table Extent} (hw : tabWf t = true) (ts : List Target) :
    tabWf (writtenExtents e a t ts) = true :=
  List.foldlRecOn (motive := fun u => tabWf u = true) _ _ hw fun u hu g _ => by
    cases tabGet u g.slot with
    | none => exact hu
    | some r => exact tabWf_tabSet hu ..

/-! ## The state after steps 1 and 2 of R45 -/

/-- The state after the records of an admitted segment are created and its pieces written. -/
def writtenState (s : State) (i : Nat) (x : Context) (a : SegmentArrival) (ts : List Target) : State :=
  { s with
    mem := writtenMem (extentBytes s.extentSize) a s.mem ts
    freeSlots := s.freeSlots.drop (ts.filter (·.fresh)).length
    extents := writtenExtents (extentBytes s.extentSize) a (createdExtents i s.extents (ts.filter (·.fresh))) ts
    contexts := tabSet s.contexts i (createdContext x (ts.filter (·.fresh))) }

section
variable {s : State} {i : Nat} {x : Context} {a : SegmentArrival} {ts : List Target}
  (htargets : SegmentTargets s i x a ts)
include htargets

theorem SegmentTargets.eq_of_slot {g q : Target} (hg : g ∈ ts) (hq : q ∈ ts) (h : g.slot = q.slot) : g = q :=
  List.inj_on_of_nodup_map htargets.slots hg hq h

theorem SegmentTargets.exists_recordBefore {g : Target} (hg : g ∈ ts) :
    ∃ r, recordBefore s i g = some r ∧ r.stream = i ∧ r.index = g.piece.index ∧ r.state.unsealed = true ∧
      (g.fresh = true → r.ranges = [] ∧ r.acc = { s := 0, t := 0 }) := by
  have hplaced := htargets.placed g hg
  by_cases hfresh : g.fresh = true
  · rw [recordBefore, if_pos hfresh]
    exact ⟨_, rfl, rfl, rfl, rfl, fun _ => ⟨rfl, rfl⟩⟩
  · rw [TargetPlaced, if_neg hfresh] at hplaced
    obtain ⟨-, r, hr, hi, hindex, hunsealed, -⟩ := hplaced
    rw [recordBefore, if_neg hfresh]
    exact ⟨r, hr, hi, hindex, hunsealed, fun h => absurd h hfresh⟩

theorem SegmentTargets.tabGet_created {g : Target} (hg : g ∈ ts) :
    tabGet (createdExtents i s.extents (ts.filter (·.fresh))) g.slot = recordBefore s i g := by
  by_cases hfresh : g.fresh = true
  · rw [recordBefore, if_pos hfresh]
    have hnodup : ((ts.filter (·.fresh)).map (·.slot)).Nodup := htargets.slots.sublist (List.filter_sublist.map _)
    exact tabGet_createdExtents_same i _ hnodup (List.mem_filter.2 ⟨hg, hfresh⟩)
  · rw [recordBefore, if_neg hfresh]
    refine tabGet_createdExtents_other i _ fun q hq heq => hfresh ?_
    obtain ⟨hq, hqfresh⟩ := List.mem_filter.1 hq
    exact htargets.eq_of_slot hq hg heq ▸ hqfresh

theorem segmentWrites_eq (hw : tabWf s.contexts = true) (hx : ctxOf s i = some x) :
    ts.foldl (writeTarget a) (createTargets s i ts) = writtenState s i x a ts := by
  have hcreated : createTargets s i ts =
      { s with
        freeSlots := s.freeSlots.drop (ts.filter (·.fresh)).length
        extents := createdExtents i s.extents (ts.filter (·.fresh))
        contexts := tabSet s.contexts i (createdContext x (ts.filter (·.fresh))) } :=
    foldl_createExtent _ hw hx htargets.freshSlots htargets.room
  rw [hcreated]
  exact foldl_writeTarget a ts fun g hg => by
    obtain ⟨r, hr, -⟩ := htargets.exists_recordBefore hg
    exact ⟨r, (htargets.tabGet_created hg).trans hr⟩

theorem tabGet_writtenState (m : Nat) :
    tabGet (writtenState s i x a ts).extents m =
      (ts.find? (fun g => g.slot == m)).elim (tabGet s.extents m) fun g =>
        (recordBefore s i g).map (recordWritten (extentBytes s.extentSize) a g) := by
  refine (tabGet_writtenExtents _ a _ htargets.slots m).trans ?_
  cases hfind : ts.find? (fun g => g.slot == m) with
  | none =>
    refine tabGet_createdExtents_other i _ fun q hq => ?_
    have hne := List.find?_eq_none.1 hfind q (List.mem_filter.1 hq).1
    simpa using hne
  | some g =>
    rw [Option.elim_some, Option.elim_some, htargets.tabGet_created (List.mem_of_find?_eq_some hfind)]

theorem tabGet_writtenState_target {g : Target} (hg : g ∈ ts) :
    tabGet (writtenState s i x a ts).extents g.slot =
      (recordBefore s i g).map (recordWritten (extentBytes s.extentSize) a g) := by
  rw [tabGet_writtenState htargets]
  cases hfind : ts.find? (fun q => q.slot == g.slot) with
  | none => simpa using List.find?_eq_none.1 hfind g hg
  | some q =>
    rw [Option.elim_some, htargets.eq_of_slot (List.mem_of_find?_eq_some hfind) hg (by simpa using List.find?_some hfind)]

omit htargets in
theorem tablesWf_writtenState (hw : TablesWf s) : TablesWf (writtenState s i x a ts) :=
  ⟨tabWf_tabSet hw.contexts .., tabWf_writtenExtents _ a (tabWf_createdExtents i hw.extents _) ts⟩

omit htargets in
theorem ctxOf_writtenState : ctxOf (writtenState s i x a ts) i = some (createdContext x (ts.filter (·.fresh))) :=
  tabGet_tabSet_same ..

theorem SegmentTargets.slotOf {g : Target} (hg : g ∈ ts) : SlotOf (writtenState s i x a ts) i g.slot := by
  intro z hz
  obtain ⟨r, hr, hi, -⟩ := htargets.exists_recordBefore hg
  rw [tabGet_writtenState_target htargets hg, hr] at hz
  cases hz
  exact hi

/-- Apart from buffer memory, steps 1 and 2 of R45 touch the held work of the one stream. -/
theorem onlyStream_writtenState :
    OnlyStream { s with mem := writtenMem (extentBytes s.extentSize) a s.mem ts } (writtenState s i x a ts) i := by
  refine ⟨rfl, fun j hj => tabGet_tabSet_other _ _ hj, fun m r (hr : tabGet s.extents m = some r) hi => ⟨?_, rfl⟩⟩
  rw [tabGet_writtenState htargets]
  cases hfind : ts.find? (fun g => g.slot == m) with
  | none => exact hr
  | some g =>
    have hg := List.mem_of_find?_eq_some hfind
    have hm : g.slot = m := by simpa using List.find?_some hfind
    obtain ⟨q, hq, hqi, -⟩ := htargets.exists_recordBefore hg
    subst hm
    by_cases hfresh : g.fresh = true
    · rw [htargets.unbound g hg hfresh] at hr
      cases hr
    · rw [recordBefore, if_neg hfresh, hr] at hq
      cases hq
      exact absurd hqi hi

end

/-! ## The later steps of R45 -/

/-- The state after the stream of an admitted segment has learned L and each written record was examined (R45, steps 3
to 5). -/
def routedState (w : State) (i : Nat) (x : Context) (a : SegmentArrival) (ts : List Target) : State :=
  ts.foldl (fun u g => routeComplete u g.slot)
    (if a.final = true ∧ x.length = none then learnLength w i (a.offset.toNat + a.payload.length) else w)

theorem segmentEffects_eq {s : State} {i : Nat} {x : Context} {a : SegmentArrival} {ts : List Target}
    (htargets : SegmentTargets s i x a ts) (hw : tabWf s.contexts = true) (hx : ctxOf s i = some x) :
    segmentEffects s i x a ts = segmentRestart (routedState (writtenState s i x a ts) i x a ts) i (newBytesOf ts) := by
  have hlearn (u : State) : segmentLearn u i x a =
      if a.final = true ∧ x.length = none then learnLength u i (a.offset.toNat + a.payload.length) else u := by
    rw [segmentLearn]
    simp only [Bool.and_eq_true, Option.isNone_iff_eq_none]
    rfl
  rw [segmentEffects, segmentWrites_eq htargets hw hx, hlearn]
  rfl

/-- The context from which the routing starts: a FINAL segment that teaches an OPEN stream its L takes it to ENDING
(R26). -/
def learnedContext (x : Context) (a : SegmentArrival) (y : Context) : Context :=
  if (a.final = true ∧ x.length = none) ∧ y.state = .opened then
    { y with length := some (a.offset.toNat + a.payload.length), state := .ending }
  else y

/-- Steps 3 to 5 of R45 are an event on the stream, from its entry into ENDING where it learns L. -/
theorem streamEvent_routedState {w : State} (hw : TablesWf w) {i : Nat} {y : Context} (hy : ctxOf w i = some y) (x : Context)
    (a : SegmentArrival) {ts : List Target} (hslots : ∀ g ∈ ts, SlotOf w i g.slot) :
    StreamEvent i (setCtx w i (learnedContext x a y)) (routedState w i x a ts) := by
  have hset : TablesWf (setCtx w i (learnedContext x a y)) := ⟨tabWf_tabSet hw.contexts .., hw.extents⟩
  have hlearned : StreamEvent i (setCtx w i (learnedContext x a y))
      (if a.final = true ∧ x.length = none then learnLength w i (a.offset.toNat + a.payload.length) else w) := by
    rw [learnedContext]
    by_cases hteaches : a.final = true ∧ x.length = none
    · by_cases hopen : y.state = .opened
      · rw [if_pos hteaches, if_pos ⟨hteaches, hopen⟩]
        exact streamEvent_learnLength hw hy hopen
      · rw [if_pos hteaches, if_neg (fun h => hopen h.2), setCtx_self hw.contexts hy, learnLength_of_not_opened hy hopen]
        exact .refl hw i
    · rw [if_neg hteaches, if_neg (fun h => hteaches h.1), setCtx_self hw.contexts hy]
      exact .refl hw i
  refine hlearned.trans (streamEvent_foldl_routeComplete ts hlearned.tables fun g hg => hlearned.owned _ ?_)
  exact hslots g hg

/-- The context of the stream once new bytes have restarted its timer (R45, step 6). -/
def restartedContext (n : Nat) (z : Context) : Context :=
  if 0 < n ∧ (z.state = .opened ∨ z.state = .ending) then
    { z with count := 0, phase := startPhase z.compareA z.compareB }
  else z

theorem segmentRestart_eq {v : State} {i : Nat} {z : Context} (hw : tabWf v.contexts = true) (hz : ctxOf v i = some z)
    (n : Nat) : segmentRestart v i n = setCtx v i (restartedContext n z) := by
  rw [segmentRestart, restartedContext]
  by_cases hn : n = 0
  · rw [if_pos hn, if_neg (by omega), setCtx_self hw hz]
  · rw [if_neg hn, restartTimer_eq hz]
    simp only [Nat.pos_of_ne_zero hn, true_and, running_eq_true_iff]

/-- The answer to an admitted segment of `n` new bytes whose work on the held work is `u`. -/
def segmentAnswer (s : State) (rest : List Arrival) (a : SegmentArrival) (i n : Nat) (u : State) (d : Context) : State :=
  { u with
    inputQueue := rest
    links := s.links.set a.link ((arrived s a.link).bytes n (a.payload.length - n))
    contexts := tabSet u.contexts i { d with counters := d.counters.bytes n (a.payload.length - n) }
    disposition :=
      some
        { code := if n = 0 then .duplicate else if n = a.payload.length then .accepted else .partialNew
          tag := a.tag
          newBytes := n
          hole :=
            firstHoleOf (setCtx u i { d with counters := d.counters.bytes n (a.payload.length - n) }) i } }

/-- Work on the held work and on memory leaves the ports. -/
theorem portsOf_segmentEffects (s : State) (i : Nat) (x : Context) (a : SegmentArrival) (ts : List Target) :
    portsOf (segmentEffects s i x a ts) = portsOf s := by
  have h := segmentEffects_withPorts s (portsOf s) i x a ts
  rw [withPorts_portsOf] at h
  rw [h]
  rfl

theorem segmentAnswer_eq {s u : State} (hports : portsOf u = portsOf s) {rest : List Arrival} {a : SegmentArrival} {i : Nat}
    {d : Context} (hd : ctxOf u i = some d) {ts : List Target} :
    answerMapped
        (segmentCount (withPorts u (arrivedPorts s rest a.link)) i a.link (newBytesOf ts) a.payload.length) i a.tag
        (segmentCode ts a.payload.length) (newBytesOf ts) =
      segmentAnswer s rest a i (newBytesOf ts) u d := by
  have hcommands : u.commands = s.commands := congrArg Ports.commands hports
  have hcount : segmentCount (withPorts u (arrivedPorts s rest a.link)) i a.link (newBytesOf ts) a.payload.length =
      withPorts (setCtx u i { d with counters := d.counters.bytes (newBytesOf ts) (a.payload.length - newBytesOf ts) })
        { inputQueue := rest
          links := s.links.set a.link
            ((arrived s a.link).bytes (newBytesOf ts) (a.payload.length - newBytesOf ts))
          disposition := s.disposition
          commands := u.commands } := by
    rw [segmentCount, modCtx_of_some (by exact hd), countLink, hcommands]
    simp [withPorts, arrivedPorts, portsOf, setCtx]
  rw [hcount, answerMapped, firstHoleOf_withPorts]
  rfl

theorem exec_segment_admitted {s : State} {a : SegmentArrival} {rest : List Arrival} {i : Nat} {x : Context}
    {ts : List Target} (h : AtHead s (.segment a) rest) (hl : lookupTag s a.tag = some (i, x))
    (hst : ¬ (x.state = .failed ∨ x.state = .withdrawing)) (hok : segmentAdmission s i x a = .ok ts)
    (hslots : targetsInPool s ts = true) {u : State} (hu : segmentEffects s i x a ts = u) {d : Context}
    (hd : ctxOf u i = some d) :
    exec .segment s = .next (segmentAnswer s rest a i (newBytesOf ts) u d) := by
  have hports : portsOf u = portsOf s := hu ▸ portsOf_segmentEffects ..
  have hok' : segmentAdmission (withPorts s (arrivedPorts s rest a.link)) i x a = .ok ts := hok
  have hslots' : targetsInPool (withPorts s (arrivedPorts s rest a.link)) ts = true := hslots
  rw [exec_segment_atHead h, handleSegment, countLink_arrival]
  simp only [lookupTag_withPorts, hl, if_neg hst, hok', if_pos hslots', segmentEffects_withPorts, hu]
  exact congrArg Host.Outcome.next (segmentAnswer_eq hports hd (rest := rest) (a := a) (ts := ts))

end Sys2Proof.Machine
end


section
/-! PROOFS. The next state of an admitted SEGMENT (spec/02, section 2.5): statement O8. -/
namespace Sys2Proof.Machine

/-! ## One piece in an ABSENT position -/

theorem maxPayload_lt_extentBytes (z : ExtentSize) : Config.maxPayload < extentBytes z := by cases z <;> decide

theorem counter_add_zero (max : Nat) (c : Counter) : c.add max 0 = c := if_pos rfl

/-- The target of a segment that is one piece, of extent `k`, in an ABSENT position. -/
def newPieceTarget (e : Nat) (a : SegmentArrival) (k slot : Nat) : Target :=
  { piece := { index := k, start := a.offset.toNat - k * e, stop := a.offset.toNat + a.payload.length - k * e }
    slot := slot
    fresh := true
    runs := [(a.offset.toNat - k * e, a.offset.toNat + a.payload.length - k * e)] }

/-- The record of that piece: its one range, accumulated from zero (R64, R77, R87). -/
def newPieceRecord (e : Nat) (a : SegmentArrival) (i k : Nat) : Extent :=
  { newExtent i k none with
    ranges := [(a.offset.toNat - k * e, a.offset.toNat - k * e + a.payload.length)]
    acc := accumulate { s := 0, t := 0 } ((a.offset.toNat - k * e) / 4) a.payload }

theorem recordWritten_new_piece {e : Nat} {a : SegmentArrival} {i k slot : Nat} (hlo : k * e ≤ a.offset.toNat) :
    recordWritten e a (newPieceTarget e a k slot) (newExtent i k none) = newPieceRecord e a i k := by
  have hstop : a.offset.toNat + a.payload.length - k * e = a.offset.toNat - k * e + a.payload.length := by omega
  have hdrop : k * e + (a.offset.toNat - k * e) - a.offset.toNat = 0 := by omega
  simp [recordWritten, newPieceTarget, newPieceRecord, newExtent, insertRange, hstop, hdrop]

theorem writeRuns_new_piece {e : Nat} {a : SegmentArrival} {k slot : Nat} (hlo : k * e ≤ a.offset.toNat) (m : List Host.Cell) :
    writeRuns m e a.offset.toNat a.payload slot k (newPieceTarget e a k slot).runs =
      writeBytes m (slot * e + (a.offset.toNat - k * e)) a.payload := by
  have hstop : a.offset.toNat + a.payload.length - k * e - (a.offset.toNat - k * e) = a.payload.length := by omega
  have hdrop : k * e + (a.offset.toNat - k * e) - a.offset.toNat = 0 := by omega
  simp [newPieceTarget, writeRuns, payloadRun, hstop, hdrop]

/-- The piece is shorter than an extent, so its extent is not complete. -/
theorem not_complete_new_piece {z : ExtentSize} {a : SegmentArrival} (hlen : a.payload.length ≤ 16384) {u : State}
    {c : Context} (hsize : u.extentSize = z) (hc : c.length = none) (i k : Nat) :
    ¬ complete u c (newPieceRecord (extentBytes z) a i k) = true := by
  rw [complete_iff, hc, hsize]
  intro hranges
  have hlt := maxPayload_lt_extentBytes z
  have hmax : Config.maxPayload = 16384 := rfl
  simp only [newPieceRecord, extentLength, List.cons.injEq, Prod.mk.injEq, and_true] at hranges
  omega

section
variable {s : State} {a : SegmentArrival} {i k slot : Nat} {free : List Nat} {x : Context} (hopen : x.state = .opened)
  (hunknown : x.length = none) (hlo : k * extentBytes s.extentSize ≤ a.offset.toNat) (hlen : a.payload.length ≤ 16384)
  (hpos : 0 < a.payload.length) (hfree : s.freeSlots = slot :: free) (hfinal : a.final = false)
include hopen hunknown hlo hlen hpos hfree hfinal

/-- The admission of the piece, which takes the slot at the head of the free-slot list. -/
theorem segmentAdmission_new_piece (haligned : a.offset.toNat % 4 = 0) (hwords : a.payload.length % 4 = 0)
    (hhi : a.offset.toNat + a.payload.length ≤ (k + 1) * extentBytes s.extentSize)
    (hobject : a.offset.toNat + a.payload.length ≤ 2 ^ 44) (hedge : x.edge ≤ k) (hwindow : k < x.edge + 64)
    (habsent : winGet x k = .absent) :
    segmentAdmission s i x a = .ok [newPieceTarget (extentBytes s.extentSize) a k slot] := by
  have he := extentBytes_pos s.extentSize
  rw [Nat.add_mul] at hhi
  have hfirst : a.offset.toNat / extentBytes s.extentSize = k := by
    rw [Nat.div_eq_iff he]
    omega
  have hlast : (a.offset.toNat + a.payload.length - 1) / extentBytes s.extentSize =
      a.offset.toNat / extentBytes s.extentSize := by
    rw [hfirst, Nat.div_eq_iff he]
    omega
  have hpieces : placedPieces s i x a =
      [((newPieceTarget (extentBytes s.extentSize) a k slot).piece, .absent)] := by
    rw [placedPieces, piecesOf_within hlast, hfirst, List.map_singleton, placeOf_of_absent hedge habsent]
    rfl
  have hformat := segmentFormat_eq_none_of haligned hpos hlen (.inr hwords)
  have hlength : segmentLength s i x a = none := segmentLength_eq_none_iff.2
    ⟨hobject, fun l hl => by simp [hunknown] at hl, fun _ hf => by simp [hfinal] at hf⟩
  rw [segmentAdmission_of_admitted hformat hlength (by simp [hopen]), hpieces, hfree]
  · rfl
  · rw [hpieces, segmentRoom_within_limit (by simpa [newPieceTarget] using hwindow) (by simp [overRangeLimit])]
    simp [hfree]

/-- The effects of the piece: its record, its bytes, the position LIVE, and the timer. -/
theorem segmentEffects_new_piece (hx : ctxOf s i = some x) :
    segmentEffects s i x a [newPieceTarget (extentBytes s.extentSize) a k slot] =
      { s with
        freeSlots := free
        extents := tabSet s.extents slot (newPieceRecord (extentBytes s.extentSize) a i k)
        contexts :=
          tabSet s.contexts i
            { x with
              window := winSet x k .live
              held := x.held + 1
              count := 0
              phase := startPhase x.compareA x.compareB }
        mem := writeBytes s.mem (slot * extentBytes s.extentSize + (a.offset.toNat - k * extentBytes s.extentSize))
          a.payload } := by
  obtain ⟨w, hwritten⟩ : ∃ w, w =
      { s with
        freeSlots := free
        extents := tabSet s.extents slot (newPieceRecord (extentBytes s.extentSize) a i k)
        contexts := tabSet s.contexts i { x with window := winSet x k .live, held := x.held + 1 }
        mem := writeBytes s.mem (slot * extentBytes s.extentSize + (a.offset.toNat - k * extentBytes s.extentSize))
          a.payload } := ⟨_, rfl⟩
  have hwrites : writeTarget a (createExtent s i k none) (newPieceTarget (extentBytes s.extentSize) a k slot) = w := by
    have hcreated := createExtent_eq hfree hx k none
    have hr : tabGet (createExtent s i k none).extents (newPieceTarget (extentBytes s.extentSize) a k slot).slot =
        some (newExtent i k none) := by
      rw [hcreated]
      exact tabGet_tabSet_same ..
    rw [writeTarget_eq hr, hcreated, hwritten]
    dsimp only
    rw [recordWritten_new_piece hlo, show (newPieceTarget (extentBytes s.extentSize) a k slot).slot = slot from rfl,
      show (newPieceTarget (extentBytes s.extentSize) a k slot).piece.index = k from rfl, writeRuns_new_piece hlo,
      tabSet_tabSet]
  have hctx : ctxOf w i = some { x with window := winSet x k .live, held := x.held + 1 } := by
    rw [hwritten]
    exact tabGet_tabSet_same ..
  have hget : tabGet w.extents slot = some (newPieceRecord (extentBytes s.extentSize) a i k) := by
    rw [hwritten]
    exact tabGet_tabSet_same ..
  have hroute : routeComplete w slot = w := by
    refine routeComplete_of_incomplete hget hctx fun h => ?_
    exact not_complete_new_piece hlen (by rw [hwritten]) hunknown i k h.2
  have heffects : segmentEffects s i x a [newPieceTarget (extentBytes s.extentSize) a k slot] =
      restartTimer (routeComplete w slot) i := by
    have hnew : newBytesOf [newPieceTarget (extentBytes s.extentSize) a k slot] ≠ 0 := by
      simp only [newBytesOf, runBytes, newPieceTarget, List.map_singleton, List.sum_singleton]
      omega
    have hlearn : segmentLearn w i x a = w := if_neg (by simp [hfinal])
    rw [segmentEffects, segmentRestart, if_neg hnew]
    change restartTimer (routeComplete (segmentLearn
      (writeTarget a (createExtent s i k none) (newPieceTarget (extentBytes s.extentSize) a k slot)) i x a) slot) i = _
    rw [hwrites, hlearn]
  rw [heffects, hroute, restartTimer_eq hctx, if_pos ((running_eq_true_iff _).2 (.inl hopen)), hwritten]
  simp [setCtx]

end

/-! ## The next state of any admitted SEGMENT (R45) -/

theorem exists_admitted_segment {s : State} {a : SegmentArrival} {rest : List Arrival} {i : Nat} {x : Context}
    {ts : List Target} (h : AtHead s (.segment a) rest) (hpool : PoolTrue s) (hwindows : WindowsTrue s)
    (hl : lookupTag s a.tag = some (i, x)) (hst : ¬ (x.state = .failed ∨ x.state = .withdrawing))
    (hok : segmentAdmission s i x a = .ok ts) {v : State} (hv : routedState (writtenState s i x a ts) i x a ts = v) :
    ∃ z, ctxOf v i = some z ∧
      StreamEvent i
        (setCtx (writtenState s i x a ts) i (learnedContext x a (createdContext x (ts.filter (·.fresh))))) v ∧
      exec .segment s =
        .next
          (segmentAnswer s rest a i (newBytesOf ts) (setCtx v i (restartedContext (newBytesOf ts) z))
            (restartedContext (newBytesOf ts) z)) := by
  have hx := ctxOf_of_lookupTag hl
  have hw := hpool.1.tablesWf
  have htargets := segmentTargets_of_admission hpool hwindows hx hok
  have hevent := streamEvent_routedState (tablesWf_writtenState hw) ctxOf_writtenState x a (ts := ts)
    fun g hg => htargets.slotOf hg
  rw [hv] at hevent
  obtain ⟨z, hz, -⟩ := hevent.context _ (ctxOf_setCtx_same ..)
  refine ⟨z, hz, hevent, exec_segment_admitted h hl hst hok (targetsInPool_of_poolAccounted hpool.2.1 hok) ?_
    (ctxOf_setCtx_same ..)⟩
  rw [segmentEffects_eq htargets hw.contexts hx, hv, segmentRestart_eq hevent.tables.contexts hz]

/-- The disposition of the answer carries the first hole of the answered state. -/
theorem segmentAnswer_self (s : State) (rest : List Arrival) (a : SegmentArrival) (i n : Nat) (u : State) (d : Context) :
    segmentAnswer s rest a i n u d =
      { u with
        inputQueue := rest
        links := s.links.set a.link ((arrived s a.link).bytes n (a.payload.length - n))
        contexts := tabSet u.contexts i { d with counters := d.counters.bytes n (a.payload.length - n) }
        disposition :=
          some
            { code := if n = 0 then .duplicate else if n = a.payload.length then .accepted else .partialNew
              tag := a.tag
              newBytes := n
              hole := firstHoleOf (segmentAnswer s rest a i n u d) i } } := by
  have hhole : firstHoleOf (segmentAnswer s rest a i n u d) i =
      firstHoleOf (setCtx u i { d with counters := d.counters.bytes n (a.payload.length - n) }) i :=
    firstHoleOf_withPorts (setCtx u i { d with counters := d.counters.bytes n (a.payload.length - n) })
      (portsOf (segmentAnswer s rest a i n u d)) i
  rw [hhole]
  rfl

/-- Settles O8: the one piece by `segmentEffects_new_piece`, any admitted segment by `exists_admitted_segment`. -/
theorem newPieceBindsHeadSlot : Obligations.NewPieceBindsHeadSlot := by
  unfold Obligations.NewPieceBindsHeadSlot
  refine ⟨?_, ?_⟩
  · intro s a rest i x k slot free h hl hopen hunknown e start haligned hfinal hwords hpos hlen hlo hhi hobject hedge hwindow
      habsent hfree hslot
    have hok := segmentAdmission_new_piece (i := i) hopen hunknown hlo hlen hpos hfree hfinal haligned hwords hhi hobject
      hedge hwindow habsent
    have hslots : targetsInPool s [newPieceTarget (extentBytes s.extentSize) a k slot] = true := by
      simpa [targetsInPool, newPieceTarget] using hslot
    have heffects := segmentEffects_new_piece hopen hunknown hlo hlen hpos hfree hfinal (ctxOf_of_lookupTag hl)
    have hexec := exec_segment_admitted h hl (by simp [hopen]) hok hslots heffects (tabGet_tabSet_same ..)
    have hnew : newBytesOf [newPieceTarget (extentBytes s.extentSize) a k slot] = a.payload.length := by
      have hlo' : k * extentBytes s.extentSize ≤ a.offset.toNat := hlo
      simp only [newBytesOf, runBytes, newPieceTarget, List.map_singleton, List.sum_singleton]
      omega
    rw [hnew] at hexec
    refine ⟨_, hexec, (segmentAnswer_self ..).trans ?_⟩
    simp only [Nat.sub_self, if_neg hpos.ne', if_true, LinkCounters.bytes, StreamCounters.bytes, counter_add_zero,
      tabSet_tabSet]
    rfl
  · intro s a rest i x ts h hpool hwindows hl hfailed hwithdrawing hok e n created
    have hx := ctxOf_of_lookupTag hl
    have htargets := segmentTargets_of_admission hpool hwindows hx hok
    obtain ⟨z, hz, -, hexec⟩ := exists_admitted_segment h hpool hwindows hl (by simp [hfailed, hwithdrawing]) hok rfl
    refine ⟨writtenState s i x a ts, createdContext x created, _, z, restartedContext n z, _, ⟨fun m => ?_,
      (tablesWf_writtenState hpool.1.tablesWf).extents, createdContext_eq .., winGet_createdContext fun g hg => ?_, rfl⟩,
      rfl, hz, rfl, hexec, ?_⟩
    · rw [tabGet_writtenState htargets]
      cases ts.find? (fun g => g.slot == m) <;> rfl
    · exact htargets.window g (List.mem_filter.1 hg).1
    · refine (segmentAnswer_self ..).trans ?_
      rw [setCtx_contexts, tabSet_tabSet]
      rfl

end Sys2Proof.Machine
end


section
/-! PROOFS. The bytes of an admitted SEGMENT (spec/02, section 2.5, and spec/03, section 3.5): where each byte is written, and that
the sub-pieces are the offsets that the stream does not cover, each once. -/
namespace Sys2Proof.Machine

/-! ## The sub-pieces of a target -/

/-- A sub-piece of extent `k` that the segment carries. -/
structure RunCarried (e : Nat) (a : SegmentArrival) (k : Nat) (q : Nat × Nat) : Prop where
  nonempty : q.1 < q.2
  within : q.2 ≤ e
  lower : a.offset.toNat ≤ k * e + q.1
  upper : k * e + q.2 ≤ a.offset.toNat + a.payload.length

theorem mem_trimPiece {a b : Nat} {rs : List (Nat × Nat)} {q : Nat × Nat} (hq : q ∈ trimPiece rs a b) :
    a ≤ q.1 ∧ q.1 < q.2 ∧ q.2 ≤ b := by
  induction rs generalizing a with
  | nil =>
    rw [trimPiece] at hq
    split at hq
    · rw [List.mem_singleton] at hq
      subst hq
      exact ⟨le_rfl, ‹_›, le_rfl⟩
    · cases hq
  | cons g rs ih =>
    obtain ⟨s, e⟩ := g
    rw [trimPiece, List.mem_append] at hq
    rcases hq with hq | hq
    · split at hq
      · rw [List.mem_singleton] at hq
        subst hq
        exact ⟨le_rfl, ‹_›, Nat.min_le_right ..⟩
      · cases hq
    · obtain ⟨hlo, hrest⟩ := ih hq
      exact ⟨(Nat.le_max_left ..).trans hlo, hrest⟩

section
variable {s : State} {i : Nat} {x : Context} {a : SegmentArrival} {ts : List Target}

theorem target_piece_fits (htargets : SegmentTargets s i x a ts) (hformat : segmentFormat a = none)
    (hlength : segmentLength s i x a = none) {g : Target} (hg : g ∈ ts) :
    PieceFits (extentBytes s.extentSize) (lengthAfter x a) g.piece ∧
      PieceCarried (extentBytes s.extentSize) a.offset.toNat a.payload.length g.piece := by
  have hpiece := htargets.pieces g hg
  rw [placedPieces_map_fst] at hpiece
  exact ⟨pieceFits_of_segment hformat hlength _ hpiece,
    pieceCarried_of_mem_piecesOf (extentBytes_pos _) (segmentFormat_eq_none hformat).2.1 _ hpiece⟩

theorem target_run_within {g : Target} (hplaced : TargetPlaced s i x g) (hpos : g.piece.start < g.piece.stop) :
    ∀ q ∈ g.runs, g.piece.start ≤ q.1 ∧ q.1 < q.2 ∧ q.2 ≤ g.piece.stop := by
  intro q hq
  rw [TargetPlaced] at hplaced
  split at hplaced
  · rw [hplaced.2, List.mem_singleton] at hq
    subst hq
    exact ⟨le_rfl, hpos, le_rfl⟩
  · obtain ⟨-, r, -, -, -, -, hruns⟩ := hplaced
    rw [hruns] at hq
    exact mem_trimPiece hq

theorem target_runs_carried (htargets : SegmentTargets s i x a ts) (hformat : segmentFormat a = none)
    (hlength : segmentLength s i x a = none) :
    ∀ g ∈ ts, ∀ q ∈ g.runs, RunCarried (extentBytes s.extentSize) a g.piece.index q := by
  intro g hg q hq
  obtain ⟨hfits, hcarried⟩ := target_piece_fits htargets hformat hlength hg
  obtain ⟨hlo, hne, hhi⟩ := target_run_within (htargets.placed g hg) hfits.nonempty q hq
  have hwithin := hfits.within.trans (extentLength_le (extentBytes_pos _) ..)
  obtain ⟨hfrom, hto⟩ := hcarried
  exact ⟨hne, by omega, by omega, by omega⟩

end

/-! ## The written bytes (R78) -/

theorem length_payloadRun {e : Nat} {a : SegmentArrival} {k : Nat} {q : Nat × Nat} (hq : RunCarried e a k q) :
    (payloadRun e a.offset.toNat a.payload k q.1 q.2).length = q.2 - q.1 := by
  obtain ⟨-, -, hlo, hhi⟩ := hq
  rw [payloadRun, List.length_take, List.length_drop]
  omega

theorem getD_payloadRun {e off : Nat} {payload : List Byte} {k lo hi j : Nat} (hj : j < hi - lo) :
    (payloadRun e off payload k lo hi).getD j 0 = payload.getD (k * e + lo - off + j) 0 := by
  simp [payloadRun, List.getD_eq_getElem?_getD, hj, List.getElem?_drop]

theorem readByte_writeRuns {e : Nat} {a : SegmentArrival} {k slot : Nat} {runs : List (Nat × Nat)}
    (hruns : ∀ q ∈ runs, RunCarried e a k q) (m : List Host.Cell) (adr : Nat) :
    readByte (writeRuns m e a.offset.toNat a.payload slot k runs) adr =
      if ∃ q ∈ runs, slot * e + q.1 ≤ adr ∧ adr < slot * e + q.2 then
        a.payload.getD (k * e + (adr - slot * e) - a.offset.toNat) 0
      else readByte m adr := by
  induction runs generalizing m with
  | nil => simp [writeRuns]
  | cons q runs ih =>
    obtain ⟨hq, hrest⟩ := List.forall_mem_cons.1 hruns
    have hlength := length_payloadRun hq
    obtain ⟨hne, -, hlo, -⟩ := hq
    obtain ⟨lo, hi⟩ := q
    rw [writeRuns, ih hrest]
    by_cases hlater : ∃ q ∈ runs, slot * e + q.1 ≤ adr ∧ adr < slot * e + q.2
    · obtain ⟨q, hq, hin⟩ := hlater
      rw [if_pos ⟨q, hq, hin⟩, if_pos ⟨q, List.mem_cons_of_mem _ hq, hin⟩]
    · rw [if_neg hlater, readByte_writeBytes, hlength]
      dsimp only at hne hlo ⊢
      by_cases hin : slot * e + lo ≤ adr ∧ adr < slot * e + hi
      · rw [if_pos (by omega), if_pos ⟨_, List.mem_cons_self, hin⟩, getD_payloadRun (by omega)]
        congr 1
        omega
      · rw [if_neg (by omega), if_neg]
        rintro ⟨q, hq, hqin⟩
        rcases List.mem_cons.1 hq with rfl | hq
        · exact hin hqin
        · exact hlater ⟨q, hq, hqin⟩

theorem readByte_writtenMem_other {e : Nat} {a : SegmentArrival} {ts : List Target}
    (hruns : ∀ g ∈ ts, ∀ q ∈ g.runs, RunCarried e a g.piece.index q) (m : List Host.Cell) {adr : Nat}
    (hadr : ∀ g ∈ ts, ∀ q ∈ g.runs, adr < g.slot * e + q.1 ∨ g.slot * e + q.2 ≤ adr) :
    readByte (writtenMem e a m ts) adr = readByte m adr := by
  induction ts generalizing m with
  | nil => rfl
  | cons g ts ih =>
    obtain ⟨hg, hrest⟩ := List.forall_mem_cons.1 hruns
    obtain ⟨hadrg, hadrRest⟩ := List.forall_mem_cons.1 hadr
    refine (ih hrest _ hadrRest).trans ?_
    rw [readByte_writeRuns hg, if_neg]
    rintro ⟨q, hq, hlo, hhi⟩
    have := hadrg q hq
    omega

theorem slot_bounds_disjoint {e m n p lo hi : Nat} (hne : m ≠ n) (hp : p < e) (hhi : hi ≤ e) :
    n * e + p < m * e + lo ∨ m * e + hi ≤ n * e + p := by
  rcases Nat.lt_or_gt_of_ne hne with hlt | hgt
  · have := Nat.mul_le_mul_right e (Nat.succ_le_of_lt hlt)
    rw [Nat.succ_mul] at this
    omega
  · have := Nat.mul_le_mul_right e (Nat.succ_le_of_lt hgt)
    rw [Nat.succ_mul] at this
    omega

theorem readByte_writtenMem_target {e : Nat} {a : SegmentArrival} {ts : List Target}
    (hruns : ∀ g ∈ ts, ∀ q ∈ g.runs, RunCarried e a g.piece.index q) (hslots : (ts.map (·.slot)).Nodup)
    (m : List Host.Cell) {g : Target} (hg : g ∈ ts) {q : Nat × Nat} (hq : q ∈ g.runs) {p : Nat} (hlo : q.1 ≤ p)
    (hhi : p < q.2) :
    readByte (writtenMem e a m ts) (g.slot * e + p) = a.payload.getD (g.piece.index * e + p - a.offset.toNat) 0 := by
  induction ts generalizing m with
  | nil => cases hg
  | cons g' ts ih =>
    obtain ⟨hfirst, hrest⟩ := List.forall_mem_cons.1 hruns
    obtain ⟨hslot, hnodup⟩ := List.nodup_cons.1 hslots
    rcases List.mem_cons.1 hg with rfl | hg
    · have hwithin := (hfirst q hq).within
      refine (readByte_writtenMem_other hrest _ fun g' hg' q' hq' => ?_).trans ?_
      · refine slot_bounds_disjoint (fun heq => hslot ?_) (hhi.trans_le hwithin) (hrest g' hg' q' hq').within
        exact List.mem_map.2 ⟨g', hg', heq⟩
      · rw [readByte_writeRuns hfirst, if_pos ⟨q, hq, by omega, by omega⟩, Nat.add_sub_cancel_left]
    · exact ih hrest hnodup _ hg

/-! ## The number of new bytes (R44) -/

theorem countP_or_of_disjoint {α : Type} (l : List α) (p q : α → Bool) (h : ∀ y ∈ l, ¬ (p y = true ∧ q y = true)) :
    l.countP (fun y => p y || q y) = l.countP p + l.countP q := by
  induction l with
  | nil => rfl
  | cons y l ih =>
    obtain ⟨hy, hrest⟩ := List.forall_mem_cons.1 h
    simp only [List.countP_cons, ih hrest]
    cases hp : p y <;> cases hq : q y <;> simp_all <;> omega

theorem countP_range_interval (n lo hi : Nat) (h : lo ≤ hi) :
    (List.range n).countP (fun p => decide (lo ≤ p ∧ p < hi)) = min n hi - min n lo := by
  induction n with
  | zero => simp
  | succ n ih =>
    rw [List.range_succ, List.countP_append, ih, List.countP_singleton]
    by_cases hn : lo ≤ n ∧ n < hi
    · rw [decide_eq_true hn, if_pos rfl]
      omega
    · rw [decide_eq_false hn, if_neg Bool.false_ne_true]
      omega

/-- Whether a target brings the byte at object offset `y`. -/
def brings (e : Nat) (y : Nat) (g : Target) : Bool := g.piece.index == y / e && covers g.runs (y % e)

theorem countP_run {e : Nat} {a : SegmentArrival} {k : Nat} {q : Nat × Nat} (hq : RunCarried e a k q) :
    (List.range a.payload.length).countP
        (fun p => k == (a.offset.toNat + p) / e &&
          decide (q.1 ≤ (a.offset.toNat + p) % e ∧ (a.offset.toNat + p) % e < q.2)) = q.2 - q.1 := by
  obtain ⟨hne, hwithin, hlo, hhi⟩ := hq
  have hinterval (p : Nat) :
      (k == (a.offset.toNat + p) / e &&
          decide (q.1 ≤ (a.offset.toNat + p) % e ∧ (a.offset.toNat + p) % e < q.2)) =
        decide (k * e + q.1 - a.offset.toNat ≤ p ∧ p < k * e + q.2 - a.offset.toNat) := by
    rw [Bool.eq_iff_iff]
    simp only [Bool.and_eq_true, beq_iff_eq, decide_eq_true_eq]
    have hdiv := Nat.div_add_mod' (a.offset.toNat + p) e
    constructor
    · rintro ⟨rfl, hin⟩
      omega
    · intro hin
      have hk : (a.offset.toNat + p) / e = k := by
        rw [Nat.div_eq_iff (by omega)]
        omega
      rw [hk] at hdiv
      exact ⟨hk.symm, by omega⟩
  simp only [hinterval]
  rw [countP_range_interval _ _ _ (by omega)]
  omega

theorem countP_runs {e : Nat} {a : SegmentArrival} {k lo : Nat} {runs : List (Nat × Nat)}
    (hruns : ∀ q ∈ runs, RunCarried e a k q) (hordered : rangesFrom lo runs = true) :
    (List.range a.payload.length).countP
      (fun p => k == (a.offset.toNat + p) / e && covers runs ((a.offset.toNat + p) % e)) = runBytes runs := by
  induction runs generalizing lo with
  | nil => simp [covers_nil, runBytes]
  | cons q runs ih =>
    obtain ⟨hq, hrest⟩ := List.forall_mem_cons.1 hruns
    obtain ⟨lo', hi'⟩ := q
    obtain ⟨-, hlater⟩ := rangesFrom_cons.1 hordered
    have hsum : runBytes ((lo', hi') :: runs) = (hi' - lo') + runBytes runs := by simp [runBytes]
    rw [hsum, ← countP_run hq, ← ih hrest hlater, ← countP_or_of_disjoint]
    · simp only [covers_cons, Bool.and_or_distrib_left]
    · intro p _ h
      simp only [Bool.and_eq_true, decide_eq_true_eq] at h
      obtain ⟨⟨-, -, hhi⟩, -, hcovers⟩ := h
      have := le_of_covers hlater hcovers
      omega

theorem countP_brings {e : Nat} {a : SegmentArrival} {ts : List Target}
    (hruns : ∀ g ∈ ts, ∀ q ∈ g.runs, RunCarried e a g.piece.index q)
    (hordered : ∀ g ∈ ts, ∃ lo, rangesFrom lo g.runs = true) (hindexes : (ts.map (·.piece.index)).Nodup) :
    (List.range a.payload.length).countP (fun p => ts.any (brings e (a.offset.toNat + p))) = newBytesOf ts := by
  induction ts with
  | nil => simp [newBytesOf]
  | cons g ts ih =>
    obtain ⟨hg, hrest⟩ := List.forall_mem_cons.1 hruns
    obtain ⟨⟨lo, hog⟩, hoRest⟩ := List.forall_mem_cons.1 hordered
    obtain ⟨hfirst, hnodup⟩ := List.nodup_cons.1 hindexes
    have hsum : newBytesOf (g :: ts) = runBytes g.runs + newBytesOf ts := by simp [newBytesOf]
    rw [hsum, ← ih hrest hoRest hnodup, ← countP_runs hg hog, ← countP_or_of_disjoint]
    · rfl
    · rintro p - ⟨hp, hany⟩
      obtain ⟨q, hq, hbrings⟩ := List.any_eq_true.1 hany
      simp only [brings, Bool.and_eq_true, beq_iff_eq] at hp hbrings
      exact hfirst (List.mem_map.2 ⟨q, hq, hbrings.1.trans hp.1.symm⟩)

/-! ## The offsets that a segment covers anew (R42, R75) -/

theorem exists_target_of_absent {p : Piece} {ps : List (Piece × Place)} (h : (p, .absent) ∈ ps) (free : List Nat) :
    ∃ g ∈ targetsOf free ps, g.piece = p ∧ g.runs = [(p.start, p.stop)] := by
  induction ps generalizing free with
  | nil => cases h
  | cons z ps ih =>
    obtain ⟨p', place⟩ := z
    rcases List.mem_cons.1 h with heq | hrest
    · cases heq
      exact ⟨_, List.mem_cons_self, rfl, rfl⟩
    · cases place with
      | duplicate => exact ih hrest free
      | live slot rs =>
        obtain ⟨g, hg, hprop⟩ := ih hrest free
        rw [targetsOf]
        split
        · exact ⟨g, hg, hprop⟩
        · exact ⟨g, List.mem_cons_of_mem _ hg, hprop⟩
      | absent =>
        obtain ⟨g, hg, hprop⟩ := ih hrest free.tail
        exact ⟨g, List.mem_cons_of_mem _ hg, hprop⟩

theorem exists_target_of_live {p : Piece} {slot : Nat} {rs : List (Nat × Nat)} {ps : List (Piece × Place)}
    (h : (p, .live slot rs) ∈ ps) (hnew : trimPiece rs p.start p.stop ≠ []) (free : List Nat) :
    ∃ g ∈ targetsOf free ps, g.piece = p ∧ g.runs = trimPiece rs p.start p.stop := by
  induction ps generalizing free with
  | nil => cases h
  | cons z ps ih =>
    obtain ⟨p', place⟩ := z
    rcases List.mem_cons.1 h with heq | hrest
    · cases heq
      rw [targetsOf, if_neg (by simpa using hnew)]
      exact ⟨_, List.mem_cons_self, rfl, rfl⟩
    · cases place with
      | duplicate => exact ih hrest free
      | live slot' rs' =>
        obtain ⟨g, hg, hprop⟩ := ih hrest free
        rw [targetsOf]
        split
        · exact ⟨g, hg, hprop⟩
        · exact ⟨g, List.mem_cons_of_mem _ hg, hprop⟩
      | absent =>
        obtain ⟨g, hg, hprop⟩ := ih hrest free.tail
        exact ⟨g, List.mem_cons_of_mem _ hg, hprop⟩

/-- Every offset of a segment lies in one of its pieces (R41). -/
theorem exists_piece_of_offset {e off len y : Nat} (he : 0 < e) (hlen : len ≤ e) (hlo : off ≤ y) (hhi : y < off + len) :
    ∃ p ∈ piecesOf e off len, p.index = y / e ∧ p.start ≤ y % e ∧ y % e < p.stop := by
  have hmod := Nat.mod_lt y he
  have hdiv := Nat.div_add_mod' y e
  have hoff := Nat.div_add_mod' off e
  by_cases hone : (off + len - 1) / e = off / e
  · have hy : y / e = off / e := by
      have hlower : off / e ≤ y / e := Nat.div_le_div_right hlo
      have hupper : y / e ≤ (off + len - 1) / e := Nat.div_le_div_right (by omega)
      omega
    rw [piecesOf_within hone]
    rw [hy] at hdiv
    exact ⟨_, List.mem_singleton_self _, hy.symm, by dsimp only; omega, by dsimp only; omega⟩
  · have hlast := last_extent_eq he (by omega) hlen hone
    have hcases : y / e = off / e ∨ y / e = off / e + 1 := by
      have hlower : off / e ≤ y / e := Nat.div_le_div_right hlo
      have hupper : y / e ≤ (off + len - 1) / e := Nat.div_le_div_right (by omega)
      omega
    rw [piecesOf_across hlast]
    rcases hcases with hy | hy
    · rw [hy] at hdiv
      exact ⟨_, List.mem_cons_self, hy.symm, by dsimp only; omega, hmod⟩
    · rw [hy] at hdiv
      exact ⟨_, List.mem_cons_of_mem _ (List.mem_singleton_self _), hy.symm, Nat.zero_le _, by dsimp only; omega⟩

theorem payload_le_of_segmentFormat {a : SegmentArrival} (h : segmentFormat a = none) :
    a.payload.length ≤ Config.maxPayload := by
  unfold segmentFormat at h
  split_ifs at h with halign hlen
  exact Nat.le_of_not_lt fun hlt => hlen (.inr hlt)

/-- A DONE stream covers every offset below its L (R9). -/
theorem offsetCovered_of_done {s : State} {i : Nat} {x : Context} {a : SegmentArrival} {y : Nat} (hstream : StreamTrue s i x)
    (hdone : x.state = .done) (hlength : segmentLength s i x a = none) (hhi : y < a.offset.toNat + a.payload.length) :
    offsetCovered s i x y = true := by
  obtain ⟨hstate, hbounds⟩ := hstream
  rw [StateTrue, hdone] at hstate
  obtain ⟨l, hl⟩ := Option.isSome_iff_exists.1 hstate.1
  obtain ⟨-, -, -, -, hedge⟩ := hbounds l hl
  have hend : segmentEnd a ≤ l := by
    have h := (segmentLength_eq_none_iff.1 hlength).2.1 l hl
    split at h
    · exact h.le
    · exact h
  have hbelow : y / extentBytes s.extentSize < extentCount (extentBytes s.extentSize) l :=
    (lt_extentCount (extentBytes_pos _)).2 (((Nat.div_mul_le_self ..).trans_lt hhi).trans_le hend)
  exact (offsetCovered_iff rfl).2 (.inl (hbelow.trans_le (hedge hdone)))

theorem segmentAdmission_running {s : State} {i : Nat} {x : Context} {a : SegmentArrival} {ts : List Target}
    (hok : segmentAdmission s i x a = .ok ts) (hdone : x.state ≠ .done) :
    ts = targetsOf s.freeSlots (placedPieces s i x a) := by
  obtain ⟨hformat, hlength, -⟩ := segmentAdmission_eq_ok hok
  cases hroom : segmentRoom s x (placedPieces s i x a) with
  | some code => simp [segmentAdmission_of_room hformat hlength hdone hroom] at hok
  | none =>
    rw [segmentAdmission_of_admitted hformat hlength hdone hroom] at hok
    exact (Except.ok.inj hok).symm

section
variable {s : State} {i : Nat} {x : Context} (hw : TablesWf s) (hwindows : WindowsTrue s) (hranges : RangesTrue s)
  (hx : ctxOf s i = some x)
include hranges hx

theorem ranges_ordered {slot : Nat} {r : Extent} (hr : tabGet s.extents slot = some r) (hi : r.stream = i) :
    rangesFrom 0 r.ranges = true :=
  (hranges (slot, r) (mem_of_tabGet hr) x (hi ▸ hx)).1.1

include hw hwindows

/-- A position that a target brings is not covered. -/
theorem not_covered_of_target {y : Nat} {g : Target} (hplaced : TargetPlaced s i x g) (hedge : x.edge ≤ g.piece.index)
    (hindex : g.piece.index = y / extentBytes s.extentSize)
    (hcovers : covers g.runs (y % extentBytes s.extentSize) = true) : offsetCovered s i x y = false := by
  rw [← Bool.not_eq_true, offsetCovered_iff rfl, ← hindex]
  rw [TargetPlaced] at hplaced
  split at hplaced
  · simp [hplaced.1, hedge]
  · obtain ⟨hlive, r, hr, hi, hrindex, -, hruns⟩ := hplaced
    rintro (hlow | hsealed | ⟨-, z, hz, hz'⟩)
    · omega
    · simp [hlive] at hsealed
    · obtain ⟨slot, r', hrec, hr', hi', hindex', -⟩ := exists_unsealedRecord_of_live hw.extents hwindows hx hlive
      rw [hrec] at hz
      cases hz
      have hslot := ((windowsTrue_iff hw).1 hwindows).unique _ _ _ _ hr' hr (hi'.trans hi.symm) (hindex'.trans hrindex.symm)
      subst hslot
      rw [hr'] at hr
      cases hr
      rw [hruns, covers_trimPiece (ranges_ordered hranges hx hr' hi)] at hcovers
      exact hcovers.2 hz'

/-- A position of the segment that is not covered is brought by a target. -/
theorem exists_target_of_not_covered {a : SegmentArrival} {ts : List Target} (hok : segmentAdmission s i x a = .ok ts)
    (hdone : x.state ≠ .done) {y : Nat} (hlo : a.offset.toNat ≤ y) (hhi : y < a.offset.toNat + a.payload.length)
    (hfree : offsetCovered s i x y = false) :
    ∃ g ∈ ts, g.piece.index = y / extentBytes s.extentSize ∧ covers g.runs (y % extentBytes s.extentSize) = true := by
  have he := extentBytes_pos s.extentSize
  have hlen := (payload_le_of_segmentFormat (segmentAdmission_eq_ok hok).1).trans (maxPayload_le_extentBytes s.extentSize)
  obtain ⟨p, hp, hindex, hstart, hstop⟩ := exists_piece_of_offset he hlen hlo hhi
  have hplaced : (p, placeOf s i x p) ∈ placedPieces s i x a := List.mem_map.2 ⟨p, hp, rfl⟩
  rw [← Bool.not_eq_true, offsetCovered_iff rfl, ← hindex, not_or, not_or] at hfree
  obtain ⟨hedge, hsealed, hlive⟩ := hfree
  rw [segmentAdmission_running hok hdone]
  cases hpos : winGet x p.index with
  | sealed => exact absurd hpos hsealed
  | absent =>
    rw [placeOf_of_absent (Nat.le_of_not_lt hedge) hpos] at hplaced
    obtain ⟨g, hg, rfl, hruns⟩ := exists_target_of_absent hplaced s.freeSlots
    refine ⟨g, hg, hindex, ?_⟩
    rw [hruns, covers_cons_iff]
    exact .inl ⟨hstart, hstop⟩
  | live =>
    obtain ⟨slot, r, hrec, hr, hi, -⟩ := exists_unsealedRecord_of_live hw.extents hwindows hx hpos
    rw [placeOf_of_live hpos hrec] at hplaced
    have hcovers : covers (trimPiece r.ranges p.start p.stop) (y % extentBytes s.extentSize) = true :=
      (covers_trimPiece (ranges_ordered hranges hx hr hi) _).2
        ⟨⟨hstart, hstop⟩, fun h => hlive ⟨hpos, _, hrec, h⟩⟩
    obtain ⟨g, hg, rfl, hruns⟩ := exists_target_of_live hplaced
      (fun h => by rw [h, covers_nil] at hcovers; cases hcovers) s.freeSlots
    exact ⟨g, hg, hindex, hruns ▸ hcovers⟩

theorem not_covered_iff_target {a : SegmentArrival} {ts : List Target} (htargets : SegmentTargets s i x a ts)
    (hok : segmentAdmission s i x a = .ok ts) (hstreams : StreamsTrue s) {y : Nat} (hlo : a.offset.toNat ≤ y)
    (hhi : y < a.offset.toNat + a.payload.length) :
    offsetCovered s i x y = false ↔
      ∃ g ∈ ts, g.piece.index = y / extentBytes s.extentSize ∧ covers g.runs (y % extentBytes s.extentSize) = true := by
  constructor
  · intro hfree
    by_cases hdone : x.state = .done
    · rw [offsetCovered_of_done (hstreams (i, x) (mem_of_tabGet hx)) hdone (segmentAdmission_eq_ok hok).2.1 hhi] at hfree
      cases hfree
    · exact exists_target_of_not_covered hw hwindows hranges hx hok hdone hlo hhi hfree
  · rintro ⟨g, hg, hindex, hcovers⟩
    exact not_covered_of_target hw hwindows hranges hx (htargets.placed g hg) (htargets.window g hg).1 hindex hcovers

/-- The number of new bytes is that of the offsets not covered (R44). -/
theorem newBytesOf_eq_count {a : SegmentArrival} {ts : List Target} (htargets : SegmentTargets s i x a ts)
    (hok : segmentAdmission s i x a = .ok ts) (hstreams : StreamsTrue s) :
    newBytesOf ts =
      ((List.range a.payload.length).filter (fun p => !offsetCovered s i x (a.offset.toNat + p))).length := by
  obtain ⟨hformat, hlength, -⟩ := segmentAdmission_eq_ok hok
  have hordered : ∀ g ∈ ts, ∃ lo, rangesFrom lo g.runs = true := by
    intro g hg
    have hplaced := htargets.placed g hg
    rw [TargetPlaced] at hplaced
    split at hplaced
    · have hpos := (target_piece_fits htargets hformat hlength hg).1.nonempty
      exact ⟨g.piece.start, by rw [hplaced.2]; exact rangesFrom_cons.2 ⟨⟨le_rfl, hpos⟩, rfl⟩⟩
    · obtain ⟨-, r, hr, hi, -, -, hruns⟩ := hplaced
      exact ⟨_, hruns ▸ rangesFrom_trimPiece (ranges_ordered hranges hx hr hi)⟩
  rw [← countP_brings (target_runs_carried htargets hformat hlength) hordered htargets.indexes,
    ← List.countP_eq_length_filter]
  refine List.countP_congr fun p hp => ?_
  rw [Bool.not_eq_true', not_covered_iff_target hw hwindows hranges hx htargets hok hstreams (Nat.le_add_right ..)
    (Nat.add_lt_add_left (List.mem_range.1 hp) _), List.any_eq_true]
  simp only [brings, Bool.and_eq_true, beq_iff_eq]

end

end Sys2Proof.Machine
end


section
/-! PROOFS. An admitted SEGMENT stores its payload (spec/02, section 2.5): the context, the records and the frame of its next state;
statement O7. -/
namespace Sys2Proof.Machine

/-! ## L and the state of the stream -/

theorem length_eq_none_iff_opened {s : State} {i : Nat} {x : Context} (hstate : StateTrue s i x)
    (hst : ¬ (x.state = .failed ∨ x.state = .withdrawing)) : x.length = none ↔ x.state = .opened := by
  cases hx : x.state <;> simp_all [StateTrue, Option.isSome_iff_ne_none]

/-- The context before the routing: counters, compares and held count are those after step 1 of R45. -/
theorem learnedContext_eq (x : Context) (a : SegmentArrival) (y : Context) :
    learnedContext x a y =
      { y with length := (learnedContext x a y).length, state := (learnedContext x a y).state } := by
  rw [learnedContext]
  split <;> rfl

theorem learnedContext_of_learns {x : Context} {a : SegmentArrival} (hfinal : a.final = true) (hnone : x.length = none)
    (hopen : x.state = .opened) (fs : List Target) :
    (learnedContext x a (createdContext x fs)).length = some (a.offset.toNat + a.payload.length) ∧
      (learnedContext x a (createdContext x fs)).state = .ending := by
  rw [learnedContext, if_pos ⟨⟨hfinal, hnone⟩, by rw [createdContext_eq, hopen]⟩]
  exact ⟨rfl, rfl⟩

theorem learnedContext_of_not_learns {x : Context} {a : SegmentArrival} (h : ¬ (a.final = true ∧ x.length = none))
    (fs : List Target) :
    (learnedContext x a (createdContext x fs)).length = x.length ∧
      (learnedContext x a (createdContext x fs)).state = x.state := by
  rw [learnedContext, if_neg (fun h' => h h'.1), createdContext_eq]
  exact ⟨rfl, rfl⟩

/-! ## The context of the next state (R37, R45) -/

/-- The context of the stream after an admitted segment of `n` new bytes, from its context `z` after the routing. -/
def segmentContext (a : SegmentArrival) (n : Nat) (z : Context) : Context :=
  { restartedContext n z with counters := (restartedContext n z).counters.bytes n (a.payload.length - n) }

theorem restartedContext_eq (n : Nat) (z : Context) :
    restartedContext n z = { z with count := (restartedContext n z).count, phase := (restartedContext n z).phase } := by
  rw [restartedContext]
  split <;> rfl

theorem segmentContext_eq (a : SegmentArrival) (n : Nat) (z : Context) :
    segmentContext a n z =
      { z with
        count := (restartedContext n z).count
        phase := (restartedContext n z).phase
        counters := z.counters.bytes n (a.payload.length - n) } := by
  rw [segmentContext, restartedContext_eq]

section
variable {s : State} {a : SegmentArrival} {i n : Nat} {x z : Context} {fs : List Target} (hstate : StateTrue s i x)
  (hst : ¬ (x.state = .failed ∨ x.state = .withdrawing)) (hlength : segmentLength s i x a = none)
  (hevent : ContextEvent (learnedContext x a (createdContext x fs)) z)
include hevent

/-- The context is that of the stream before, apart from what the routing and the restart change. -/
theorem segmentContext_counters :
    (segmentContext a n z).counters =
      { x.counters with
        accepted := x.counters.accepted.add Config.max48 n
        duplicate := x.counters.duplicate.add Config.max48 (a.payload.length - n)
        retries := (segmentContext a n z).counters.retries } := by
  have hcounters := hevent.counters
  rw [learnedContext_eq, createdContext_eq] at hcounters
  rw [segmentContext_eq, StreamCounters.bytes, hcounters]

theorem segmentContext_held (hrun : (segmentContext a n z).state ≠ .failed) :
    (segmentContext a n z).held = x.held + fs.length := by
  rw [segmentContext_eq] at hrun ⊢
  rw [hevent.held hrun, learnedContext_eq, createdContext_eq]

theorem segmentContext_restarted (hn : 0 < n)
    (hrun : (segmentContext a n z).state = .opened ∨ (segmentContext a n z).state = .ending) :
    (segmentContext a n z).count = 0 ∧ (segmentContext a n z).phase = startPhase x.compareA x.compareB := by
  have hcompares := hevent.compares
  rw [learnedContext_eq, createdContext_eq] at hcompares
  rw [segmentContext_eq] at hrun
  rw [segmentContext, restartedContext, if_pos ⟨hn, hrun⟩]
  exact ⟨rfl, by rw [hcompares.1, hcompares.2]⟩

include hstate hst hlength

theorem segmentContext_length :
    (segmentContext a n z).length =
      if a.final = true then some (a.offset.toNat + a.payload.length) else x.length := by
  rw [segmentContext_eq]
  refine hevent.length.trans ?_
  by_cases hlearns : a.final = true ∧ x.length = none
  · rw [(learnedContext_of_learns hlearns.1 hlearns.2
      ((length_eq_none_iff_opened hstate hst).1 hlearns.2) fs).1, if_pos hlearns.1]
  · rw [(learnedContext_of_not_learns hlearns fs).1]
    split
    · next hfinal =>
      obtain ⟨l, hl⟩ := Option.ne_none_iff_exists'.1 fun hnone => hlearns ⟨hfinal, hnone⟩
      have hend := (segmentLength_eq_none_iff.1 hlength).2.1 l hl
      rw [if_pos hfinal] at hend
      rw [hl, ← hend]
      rfl
    · rfl

omit hlength in
theorem segmentContext_not_opened (hfinal : a.final = true) : (segmentContext a n z).state ≠ .opened := by
  rw [segmentContext_eq]
  refine hevent.stays ?_
  by_cases hnone : x.length = none
  · rw [(learnedContext_of_learns hfinal hnone ((length_eq_none_iff_opened hstate hst).1 hnone) fs).2]
    decide
  · rw [(learnedContext_of_not_learns (fun h => hnone h.2) fs).2]
    exact fun hopen => hnone ((length_eq_none_iff_opened hstate hst).2 hopen)

omit hlength hstate hst in
theorem segmentContext_opened (hopen : x.state = .opened) (hfinal : a.final = false) :
    (segmentContext a n z).state = .opened ∨ (segmentContext a n z).state = .failed := by
  rw [segmentContext_eq]
  refine hevent.opened ?_
  rw [(learnedContext_of_not_learns (fun h => by simp [hfinal] at h) fs).2, hopen]

end

/-! ## The records and the frame of the next state -/

section
variable {s : State} {a : SegmentArrival} {i : Nat} {x : Context} {ts : List Target} {v : State}
  (htargets : SegmentTargets s i x a ts)
  (hevent : StreamEvent i
    (setCtx (writtenState s i x a ts) i (learnedContext x a (createdContext x (ts.filter (·.fresh))))) v)
include htargets hevent

/-- The effects of an admitted segment touch buffer memory and the held work of the one stream. -/
theorem onlyStream_routed : OnlyStream { s with mem := writtenMem (extentBytes s.extentSize) a s.mem ts } v i :=
  onlyStream_trans (onlyStream_trans (onlyStream_writtenState htargets) (onlyStream_setCtx ..)) hevent.only

/-- A written record that is not complete stays, unless its stream fails. -/
theorem tabGet_routed {g : Target} (hg : g ∈ ts) {r : Extent} (hr : recordBefore s i g = some r) {z : Context}
    (hz : ctxOf v i = some z) (hrun : z.state ≠ .failed)
    (hpart : (recordWritten (extentBytes s.extentSize) a g r).ranges ≠
      [(0, extentLength (extentBytes s.extentSize) z.length g.piece.index)]) :
    tabGet v.extents g.slot = some (recordWritten (extentBytes s.extentSize) a g r) := by
  obtain ⟨r', hr', hi, hindex, -⟩ := htargets.exists_recordBefore hg
  rw [hr] at hr'
  cases hr'
  have hctx : ctxOf (setCtx (writtenState s i x a ts) i (learnedContext x a (createdContext x (ts.filter (·.fresh))))) i =
      some (learnedContext x a (createdContext x (ts.filter (·.fresh)))) := ctxOf_setCtx_same ..
  obtain ⟨z', hz', hcz⟩ := hevent.context _ hctx
  rw [hz] at hz'
  cases hz'
  refine hevent.records g.slot _ _ z ?_ hi hctx ?_ hz hrun
  · rw [setCtx_extents, tabGet_writtenState_target htargets hg, hr]
    rfl
  · rw [complete_iff, ← hcz.length, show (recordWritten (extentBytes s.extentSize) a g r).index = g.piece.index from hindex]
    exact hpart

end

/-- After a SEGMENT every unsealed record stands at a LIVE position, if it did before. -/
theorem unsealedLive_exec {s t : State} {c : Instr} (hpool : PoolTrue s) (hwindows : WindowsTrue s) (h : exec c s = .next t) :
    UnsealedLive t := by
  have hl := (poolTrue_iff_ledger s).1 hpool
  obtain ⟨-, -, hlive⟩ := reflTransGen_induct (P := fun u => Ledger u ∧ UnsealedLive u)
    ((outcomeSteps_exec c s t h).chain hl.tables) hl.tables
    (fun u v _ ⟨hlu, hu⟩ hmove => ⟨hmove.ledger hlu, hmove.unsealedLive hlu hu⟩)
    ⟨hl, ((windowsTrue_iff hl.tables).1 hwindows).live⟩
  exact hlive

/-- A segment without a new byte has no target. -/
theorem targets_eq_nil {e : Nat} {a : SegmentArrival} {ts : List Target}
    (hruns : ∀ g ∈ ts, ∀ q ∈ g.runs, RunCarried e a g.piece.index q) (hne : ∀ g ∈ ts, g.runs ≠ [])
    (h : newBytesOf ts = 0) : ts = [] := by
  cases ts with
  | nil => rfl
  | cons g ts =>
    obtain ⟨q, qs, hq⟩ := List.exists_cons_of_ne_nil (hne g List.mem_cons_self)
    have hpos := (hruns g List.mem_cons_self q (by rw [hq]; exact List.mem_cons_self)).nonempty
    simp only [newBytesOf, runBytes, hq, List.map_cons, List.sum_cons] at h
    omega

theorem runs_ne_nil_of_mem_targetsOf {free : List Nat} {ps : List (Piece × Place)} {g : Target} (hg : g ∈ targetsOf free ps) :
    g.runs ≠ [] := by
  induction ps generalizing free with
  | nil => cases hg
  | cons p ps ih =>
    obtain ⟨p, place⟩ := p
    cases place with
    | duplicate => exact ih hg
    | live slot rs =>
      rw [targetsOf] at hg
      split at hg
      · exact ih hg
      · next hne =>
        rcases List.mem_cons.1 hg with rfl | hg
        · simpa using hne
        · exact ih hg
    | absent =>
      rw [targetsOf] at hg
      rcases List.mem_cons.1 hg with rfl | hg
      · exact List.cons_ne_nil _ _
      · exact ih hg

theorem target_runs_ne_nil {s : State} {i : Nat} {x : Context} {a : SegmentArrival} {ts : List Target}
    (hok : segmentAdmission s i x a = .ok ts) : ∀ g ∈ ts, g.runs ≠ [] := by
  obtain ⟨-, -, rfl | ⟨-, rfl⟩⟩ := segmentAdmission_eq_ok hok
  · exact fun g hg => by cases hg
  · exact fun g hg => runs_ne_nil_of_mem_targetsOf hg

/-- Without a target and without an L to learn, the state before the routing and after it is that of the arrival. -/
theorem routedState_nil {s : State} {i : Nat} {x : Context} {a : SegmentArrival} (hw : tabWf s.contexts = true)
    (hx : ctxOf s i = some x) (h : ¬ (a.final = true ∧ x.length = none)) :
    routedState (writtenState s i x a []) i x a [] = s := by
  have hwritten : writtenState s i x a [] = s := setCtx_self hw hx
  rw [hwritten, routedState, if_neg h]
  rfl

/-- The answered state `t` of an admitted segment, from the state `v` after the routing, apart from the context of its
stream. -/
structure AnsweredFrom (s v t : State) (rest : List Arrival) (a : SegmentArrival) (i n : Nat) : Prop where
  disposition : t.disposition =
    some
      { code := if n = 0 then .duplicate else if n = a.payload.length then .accepted else .partialNew
        tag := a.tag
        newBytes := n
        hole := firstHoleOf t i }
  links : t.links[a.link] = (arrived s a.link).bytes n (a.payload.length - n)
  others : ∀ j, j ≠ i → ctxOf t j = ctxOf v j
  frame : t =
    { v with
      inputQueue := rest
      disposition := t.disposition
      links := s.links.set a.link t.links[a.link]
      contexts := t.contexts }

theorem answeredFrom_segmentAnswer (s v : State) (rest : List Arrival) (a : SegmentArrival) (i n : Nat) (z : Context) :
    AnsweredFrom s v (segmentAnswer s rest a i n (setCtx v i (restartedContext n z)) (restartedContext n z)) rest a i n := by
  have hlinks : (segmentAnswer s rest a i n (setCtx v i (restartedContext n z)) (restartedContext n z)).links[a.link] =
      (arrived s a.link).bytes n (a.payload.length - n) := Vector.getElem_set_self ..
  refine ⟨congrArg State.disposition (segmentAnswer_self ..), hlinks, fun j hj => ?_, ?_⟩
  · exact (tabGet_tabSet_other _ _ hj).trans (tabGet_tabSet_other _ _ hj)
  · rw [hlinks]
    rfl

/-- Settles O7: the targets by `segmentTargets_of_admission`, the bytes by `readByte_writtenMem_target` and
`not_covered_iff_target`, the next state by `exists_admitted_segment`, and its context by `segmentContext`. -/
theorem admittedSegmentStoresPayload : Obligations.AdmittedSegmentStoresPayload := by
  unfold Obligations.AdmittedSegmentStoresPayload
  intro s a rest i x ts h hpool hwindows hstreams hl hfailed hwithdrawing hok e n
  have hx := ctxOf_of_lookupTag hl
  have hw := hpool.1.tablesWf
  have hst : ¬ (x.state = .failed ∨ x.state = .withdrawing) := by simp [hfailed, hwithdrawing]
  have hstate := (hstreams (i, x) (mem_of_tabGet hx)).1
  have htargets := segmentTargets_of_admission hpool hwindows hx hok
  obtain ⟨hformat, hlength, -⟩ := segmentAdmission_eq_ok hok
  have hruns := target_runs_carried htargets hformat hlength
  refine ⟨⟨fun g hg => ⟨htargets.pieces g hg, htargets.placed g hg⟩, htargets.freshSlots, fun hranges =>
    ⟨fun p hlo hhi => not_covered_iff_target hw hwindows hranges hx htargets hok hstreams hlo hhi,
      newBytesOf_eq_count hw hwindows hranges hx htargets hok hstreams⟩⟩, ?_⟩
  obtain ⟨v, hv⟩ : ∃ v, routedState (writtenState s i x a ts) i x a ts = v := ⟨_, rfl⟩
  obtain ⟨z, hz, hevent, hexec⟩ := exists_admitted_segment h hpool hwindows hl hst hok hv
  obtain ⟨hframe, hothers, hrecords⟩ := onlyStream_routed htargets hevent
  obtain ⟨z', hz', hcz⟩ := hevent.context _ (ctxOf_setCtx_same ..)
  rw [hz] at hz'
  cases hz'
  obtain ⟨t, ht⟩ : ∃ t, segmentAnswer s rest a i (newBytesOf ts) (setCtx v i (restartedContext (newBytesOf ts) z))
    (restartedContext (newBytesOf ts) z) = t := ⟨_, rfl⟩
  have hanswered := answeredFrom_segmentAnswer s v rest a i (newBytesOf ts) z
  have hctx : ctxOf t i = some (segmentContext a (newBytesOf ts) z) := ht ▸ tabGet_tabSet_same ..
  rw [ht] at hexec hanswered
  have hmem : t.mem = writtenMem (extentBytes s.extentSize) a s.mem ts := by
    rw [hanswered.frame]
    exact congrArg State.mem hframe
  have hextents : t.extents = v.extents := by rw [hanswered.frame]
  have hgens (m : Nat) : genOf t m = genOf v m := by rw [hanswered.frame]; rfl
  refine ⟨t, segmentContext a n z, hexec, hctx, ⟨hanswered.disposition, ?_, ?_, hanswered.links, ?_, ?_, ?_⟩,
    ⟨segmentContext_counters hcz, segmentContext_length hstate hst hlength hcz, segmentContext_not_opened hstate hst hcz,
      segmentContext_opened hcz, segmentContext_held hcz, segmentContext_restarted hcz⟩, ?_, ?_⟩
  · intro g hg q hq p hlo hhi
    rw [hmem]
    exact readByte_writtenMem_target hruns htargets.slots s.mem hg hq hlo hhi
  · intro adr hadr
    rw [hmem]
    exact readByte_writtenMem_other hruns s.mem hadr
  · exact fun j hj => (hanswered.others j hj).trans (hothers j hj)
  · intro m r hr hi
    rw [hextents, hgens]
    exact hrecords m r hr hi
  · have hfree : t.freeSlots = v.freeSlots := by rw [hanswered.frame]
    have hgens' : t.gens = v.gens := by rw [hanswered.frame]
    have hready : t.ready = v.ready := by rw [hanswered.frame]
    have hhold : t.hold = v.hold := by rw [hanswered.frame]
    have hclaims : t.claims = v.claims := by rw [hanswered.frame]
    refine hanswered.frame.trans ?_
    rw [hmem, hextents, hfree, hgens', hready, hhold, hclaims]
    exact congrArg (fun u : State =>
      { u with
        inputQueue := rest
        disposition := t.disposition
        links := s.links.set a.link t.links[a.link]
        contexts := t.contexts }) hframe
  · intro g hg r hr hrun hpart
    obtain ⟨r', hr', hi, hindex, hunsealed, -⟩ := htargets.exists_recordBefore hg
    rw [hr] at hr'
    cases hr'
    rw [segmentContext_eq] at hrun hpart
    have htab := tabGet_routed htargets hevent hg hr hz hrun hpart
    rw [← hextents] at htab
    have hlive := (unsealedLive_exec hpool hwindows hexec).winGet_eq_live
      (r := recordWritten (extentBytes s.extentSize) a g r) htab hunsealed (hi.symm ▸ hctx)
    exact ⟨htab, hindex ▸ hlive⟩
  · intro hnone hkept
    have hnil := targets_eq_nil hruns (target_runs_ne_nil hok) hnone
    subst hnil
    have hnot : ¬ (a.final = true ∧ x.length = none) := by
      rintro ⟨hfinal, hunknown⟩
      rcases hkept with hkept | hkept
      · simp [hfinal] at hkept
      · exact hkept hunknown
    have hvs : s = v := (routedState_nil hw.contexts hx hnot).symm.trans hv
    subst hvs
    rw [hx] at hz
    cases hz
    have hcontexts : t.contexts = tabSet s.contexts i { x with counters := (segmentContext a n x).counters } := by
      rw [← ht]
      exact (tabSet_tabSet ..).trans rfl
    refine ⟨rfl, hanswered.frame.trans ?_⟩
    rw [hcontexts]

end Sys2Proof.Machine
end
